-- ==== Sys2Proof/Word.lean ====
section
/-! DEFINITION. The widths the spec reads as bits (R10, R11): a byte, a 16-bit half word, a 32-bit word. -/

namespace Sys2Proof

/-- A byte is 8 bits (R10). -/
abbrev Byte := BitVec 8

/-- A 16-bit pattern: a memory address on SPI, an assembled sample, an attempt count (R35, R41, R43). -/
abbrev Half := BitVec 16

/-- A *word* is 32 bits (R10): a host-port register, a command word, a UART register value. -/
abbrev Word := BitVec 32

end Sys2Proof
end

