-- ==== Sys2Proof/Syntax.lean ====
section
/-! DEFINITION. The commands: one constructor per row of spec/opcode_table.json (R103). -/

namespace Sys2Proof

/-- The sixteen commands of R103 with the fields each row marks "used". `A8` and `D8` are bytes (R102); the read length
and the index of ASM16 are unsigned counts (R102, R230), kept as Nat and bounded in `Instr.wellFormed` (log 14). -/
inductive Instr where
  /-- NOP (R138). -/
  | nop
  /-- BAUD.CALC (R150). -/
  | baudCalc
  /-- UART.INIT (R155). -/
  | uartInit
  /-- UART.WRITE d8 (R160). -/
  | uartWrite (d8 : Byte)
  /-- UART.READ len (R165). -/
  | uartRead (len : Nat)
  /-- I2C.WRITE reg, d8 (R185). -/
  | i2cWrite (reg d8 : Byte)
  /-- I2C.READ reg, len (R188). -/
  | i2cRead (reg : Byte) (len : Nat)
  /-- SPI.WRITE instr, d8 (R205). -/
  | spiWrite (instr d8 : Byte)
  /-- SPI.READ instr, len (R208). -/
  | spiRead (instr : Byte) (len : Nat)
  /-- SPI.CMD instr (R211). -/
  | spiCmd (instr : Byte)
  /-- SPI.CMDR instr, len (R214). -/
  | spiCmdr (instr : Byte) (len : Nat)
  /-- ASM16 k (R230). -/
  | asm16 (k : Nat)
  /-- ASM.SAMPLE (R235). -/
  | asmSample
  /-- POLL.INIT (R255). -/
  | pollInit
  /-- POLL.STEP (R258). -/
  | pollStep
  /-- POLL.RUN (R262). -/
  | pollRun
deriving DecidableEq, Repr

end Sys2Proof
end

