-- ==== Sys2Proof/WellFormed.lean ====
section
/-! DEFINITION. Which commands have a word: every count fits its field (R101, R110). -/

namespace Sys2Proof

/-- R101, R110: "`len` must be 0 to 31", the range of the 5-bit LEN field. A length outside 1 to 16 is still a legal
encoding (R102): it completes with INVALID_LENGTH. -/
def lenFits (len : Nat) : Bool := len < 32

/-- R110: "`k` must be 0 to 255", the range of the 8-bit A8 field. -/
def indexFits (k : Nat) : Bool := k < 256

/-- The operands of a command fit the fields of its word (R110). -/
def Instr.wellFormed : Instr → Bool
  | .nop => true
  | .baudCalc => true
  | .uartInit => true
  | .uartWrite _ => true
  | .uartRead len => lenFits len
  | .i2cWrite _ _ => true
  | .i2cRead _ len => lenFits len
  | .spiWrite _ _ => true
  | .spiRead _ len => lenFits len
  | .spiCmd _ => true
  | .spiCmdr _ len => lenFits len
  | .asm16 k => indexFits k
  | .asmSample => true
  | .pollInit => true
  | .pollStep => true
  | .pollRun => true

end Sys2Proof
end

