-- ==== Sys2Proof/Decode.lean ====
section
/-! DEFINITION. The decoder of R106, total on every 32-bit word, the encoder of R110, and the assembler's refusals. -/

namespace Sys2Proof

/-- OP = word[4:0] (R101). -/
def opField (w : Word) : BitVec 5 := w.extractLsb' 0 5

/-- RSV0 = word[7:5] (R101). -/
def rsv0Field (w : Word) : BitVec 3 := w.extractLsb' 5 3

/-- A8 = word[15:8] (R102). -/
def a8Field (w : Word) : Byte := w.extractLsb' 8 8

/-- D8 = word[23:16] (R102). -/
def d8Field (w : Word) : Byte := w.extractLsb' 16 8

/-- LEN = word[28:24] (R102). -/
def lenField (w : Word) : BitVec 5 := w.extractLsb' 24 5

/-- RSV1 = word[31:29] (R101). -/
def rsv1Field (w : Word) : BitVec 3 := w.extractLsb' 29 3

/-- A row of the opcode map (R103): `w` selects it when `w &&& mask = code`. -/
structure Row where
  /-- the table's `match` -/
  code : Word
  /-- the table's `mask` -/
  mask : Word
  /-- the command, its operands cut from the word (R102) -/
  build : Word → Instr

/-- The opcode map of R103, row by row. -/
def rows : List Row :=
  [ ⟨0x00000000, 0xFFFFFFFF, fun _ => .nop⟩
  , ⟨0x00000001, 0xFFFFFFFF, fun _ => .baudCalc⟩
  , ⟨0x00000002, 0xFFFFFFFF, fun _ => .uartInit⟩
  , ⟨0x00000003, 0xFF00FFFF, fun w => .uartWrite (d8Field w)⟩
  , ⟨0x00000004, 0xE0FFFFFF, fun w => .uartRead (lenField w).toNat⟩
  , ⟨0x00000005, 0xFF0000FF, fun w => .i2cWrite (a8Field w) (d8Field w)⟩
  , ⟨0x00000006, 0xE0FF00FF, fun w => .i2cRead (a8Field w) (lenField w).toNat⟩
  , ⟨0x00000007, 0xFF0000FF, fun w => .spiWrite (a8Field w) (d8Field w)⟩
  , ⟨0x00000008, 0xE0FF00FF, fun w => .spiRead (a8Field w) (lenField w).toNat⟩
  , ⟨0x00000009, 0xFFFF00FF, fun w => .spiCmd (a8Field w)⟩
  , ⟨0x0000000A, 0xE0FF00FF, fun w => .spiCmdr (a8Field w) (lenField w).toNat⟩
  , ⟨0x0000000B, 0xFFFF00FF, fun w => .asm16 (a8Field w).toNat⟩
  , ⟨0x0000000C, 0xFFFFFFFF, fun _ => .asmSample⟩
  , ⟨0x0000000D, 0xFFFFFFFF, fun _ => .pollInit⟩
  , ⟨0x0000000E, 0xFFFFFFFF, fun _ => .pollStep⟩
  , ⟨0x0000000F, 0xFFFFFFFF, fun _ => .pollRun⟩ ]

/-- Why a word is *illegal* (R105). The command's result is ILLEGAL_COMMAND for all three. -/
inductive Illegal where
  /-- OP in 0x10 to 0x1F. -/
  | undefinedOp
  /-- a nonzero RSV0 or RSV1. -/
  | reservedBits
  /-- a nonzero field that the row of OP does not use (R104). -/
  | unusedField
deriving DecidableEq, Repr

/-- Which clause of R105 names a word that selects no row, in the order R105 lists them. -/
def illegalReason (w : Word) : Illegal :=
  if 0x10 ≤ (opField w).toNat then .undefinedOp
  else if rsv0Field w ≠ 0 ∨ rsv1Field w ≠ 0 then .reservedBits
  else .unusedField

/-- `decode` of R106, total on every 32-bit word; a word that selects no row is rejected by name. -/
def decode (w : Word) : Except Illegal Instr :=
  match rows.find? (fun r => w &&& r.mask == r.code) with
  | some r => .ok (r.build w)
  | none => .error (illegalReason w)

/-- The word of R101 with the given fields and both reserved fields 0: RSV1, LEN, D8, A8, RSV0, OP from the top. -/
def commandWord (len : BitVec 5) (d8 a8 : Byte) (op : BitVec 5) : Word :=
  (0#3 ++ len ++ d8 ++ a8 ++ 0#3 ++ op : BitVec (3 + 5 + 8 + 8 + 3 + 5))

/-- The word of a well-formed command (R110). A count that does not fit is cut to its field: `assemble` refuses it. -/
def encode : Instr → Word
  | .nop => commandWord 0 0 0 0x00
  | .baudCalc => commandWord 0 0 0 0x01
  | .uartInit => commandWord 0 0 0 0x02
  | .uartWrite d8 => commandWord 0 d8 0 0x03
  | .uartRead len => commandWord (BitVec.ofNat 5 len) 0 0 0x04
  | .i2cWrite reg d8 => commandWord 0 d8 reg 0x05
  | .i2cRead reg len => commandWord (BitVec.ofNat 5 len) 0 reg 0x06
  | .spiWrite instr d8 => commandWord 0 d8 instr 0x07
  | .spiRead instr len => commandWord (BitVec.ofNat 5 len) 0 instr 0x08
  | .spiCmd instr => commandWord 0 0 instr 0x09
  | .spiCmdr instr len => commandWord (BitVec.ofNat 5 len) 0 instr 0x0A
  | .asm16 k => commandWord 0 0 (BitVec.ofNat 8 k) 0x0B
  | .asmSample => commandWord 0 0 0 0x0C
  | .pollInit => commandWord 0 0 0 0x0D
  | .pollStep => commandWord 0 0 0 0x0E
  | .pollRun => commandWord 0 0 0 0x0F

/-- The command R110's syntax names by a mnemonic and its operands, with every operand that must fit a byte checked:
"`reg`, `instr`, `d8` and `k` must be 0 to 255", "`len` must be 0 to 31". -/
def assembleInstr (mnemonic : String) (operands : List Nat) : Option Instr :=
  let byte (v : Nat) : Option Byte := if v < 256 then some (BitVec.ofNat 8 v) else none
  let wf (i : Instr) : Option Instr := if i.wellFormed then some i else none
  match mnemonic, operands with
  | "NOP", [] => some .nop
  | "BAUD.CALC", [] => some .baudCalc
  | "UART.INIT", [] => some .uartInit
  | "UART.WRITE", [d8] => (byte d8).map .uartWrite
  | "UART.READ", [len] => wf (.uartRead len)
  | "I2C.WRITE", [reg, d8] => (byte reg).bind fun r => (byte d8).map fun d => .i2cWrite r d
  | "I2C.READ", [reg, len] => (byte reg).bind fun r => wf (.i2cRead r len)
  | "SPI.WRITE", [instr, d8] => (byte instr).bind fun r => (byte d8).map fun d => .spiWrite r d
  | "SPI.READ", [instr, len] => (byte instr).bind fun r => wf (.spiRead r len)
  | "SPI.CMD", [instr] => (byte instr).map .spiCmd
  | "SPI.CMDR", [instr, len] => (byte instr).bind fun r => wf (.spiCmdr r len)
  | "ASM16", [k] => wf (.asm16 k)
  | "ASM.SAMPLE", [] => some .asmSample
  | "POLL.INIT", [] => some .pollInit
  | "POLL.STEP", [] => some .pollStep
  | "POLL.RUN", [] => some .pollRun
  | _, _ => none

/-- The assembler of R110 after its text is split into a mnemonic and numbers: the command word, or a refusal where an
operand does not fit its field. `.word v` denotes the word v itself, the only way to write an illegal word. -/
def assemble (mnemonic : String) (operands : List Nat) : Option Word :=
  match mnemonic, operands with
  | ".word", [v] => if v < 2 ^ 32 then some (BitVec.ofNat 32 v) else none
  | _, _ => (assembleInstr mnemonic operands).map encode

/-- The command of a table row's bits: a command is one 32-bit word (R100), bit 0 its least significant, every bit above
`nbits` 0. -/
def decodeTableWord (nbits w : Nat) : Option Instr :=
  (decode (BitVec.ofNat 32 (w % 2 ^ nbits))).toOption

end Sys2Proof
end

