-- ==== Sys2Proof/Config.lean ====
section
/-! DEFINITION. The implementation parameters of R7, and the free values: what the transports answer (R9). -/

namespace Sys2Proof

/-- The parameters of R7 that the spec leaves OPEN, gives only a default, or lets differ. R54: they are no state of the
core; no step changes them. `State.params` carries them because `step` takes the state alone (log 6).
PRESUMED by the spec itself (R7, R76, D15): the default offsets and flag bits are general knowledge. -/
structure Params where
  /-- `BLOCK_BASE`: the host address of the register window. OPEN (D2). -/
  blockBase : Nat
  /-- `UART_BASE` / 4: R75 has every access aligned to 4, so the base is a whole number of words. OPEN (D15). DEDUCED, log 7. -/
  uartBaseWords : Nat
  /-- `UART_DR_OFF`, the data register. -/
  uartDrOff : Nat := 0x000
  /-- `UART_FR_OFF`, the flag register. -/
  uartFrOff : Nat := 0x018
  /-- `UART_IBRD_OFF`, the integer baud-rate divisor. -/
  uartIbrdOff : Nat := 0x024
  /-- `UART_FBRD_OFF`, the fractional baud-rate divisor. -/
  uartFbrdOff : Nat := 0x028
  /-- `UART_LCR_OFF`, the line-control register. -/
  uartLcrOff : Nat := 0x02C
  /-- `UART_CR_OFF`, the control register. -/
  uartCrOff : Nat := 0x030
  /-- `FR_TXFF_BIT`: the TX-full bit of the flag register. -/
  frTxffBit : Fin 32 := 5
  /-- `FR_RXFE_BIT`: the RX-empty bit of the flag register. -/
  frRxfeBit : Fin 32 := 4
  /-- `NACK_IS_FAULT`: true for this hardware; false reproduces the source's emulated core (R7, R182). -/
  nackIsFault : Bool := true
deriving DecidableEq, Repr

/-- R85: "the parameter offsets must be multiples of 4. A model refuses parameter values that are not." -/
def Params.aligned (p : Params) : Bool :=
  [p.uartDrOff, p.uartFrOff, p.uartIbrdOff, p.uartFbrdOff, p.uartLcrOff, p.uartCrOff].all (· % 4 == 0)

namespace Config

/-- `WINDOW_SIZE` = 0x100 bytes (R7). -/
def windowSize : Nat := 0x100

/-- `RXBUF_SIZE` = 16 bytes (R7). -/
def rxbufSize : Nat := 16

/-- `LEN_MAX` = 16, the largest read length (R7). -/
def lenMax : Nat := 16

/-- `SPI_DUMMY` = 0x00, the byte sent to clock in read data (R7, R202). -/
def spiDummy : Byte := 0x00

/-- `IBRD_WIDTH`: the largest integer divisor a 16-bit field holds (R7, R152). -/
def ibrdMax : Nat := 65535

/-- `BLOCK_BASE` is OPEN (R7): no value is chosen. -/
opaque blockBase : Nat

/-- `UART_BASE` / 4 is OPEN (R7): no value is chosen. -/
opaque uartBaseWords : Nat

/-- This hardware's parameters: both bases OPEN, every other at its R7 value. -/
def params : Params := { blockBase := blockBase, uartBaseWords := uartBaseWords }

/-- FREE VALUE (R9: the transports' answers are "unconstrained draws"): whether the n-th free draw, if it answers an
`I2C.write`, is a NACK. No proof can see it. Log 4. -/
opaque freeNack : Nat → Bool

/-- FREE VALUE (R9): the data of the n-th free draw, a byte or a UART register word. No proof can see it. Log 4. -/
opaque freeData : Nat → Word

end Config

end Sys2Proof
end

