-- ==== Sys2Proof/Machine/State.lean ====
section
/-! DEFINITION. The machine's state as plain data (10_state.md), the events of the history (R14, R80), the turns of the
agents (R9), the reasons a step can stop, and the state after reset (R55). -/

namespace Sys2Proof.Machine

/-- The answer of `I2C.write`: `ack` ∈ {ACK, NACK} (R80). -/
inductive Ack where
  | ack
  | nack
deriving DecidableEq, Repr

/-- The result codes of R290. The codes 6 to 15 are never produced and have no constructor (log 18). -/
inductive Result where
  /-- 0: the command did what its rule says. -/
  | ok
  /-- 1: a poll reached Timeout. -/
  | timeout
  /-- 2: a read length outside 1 to 16, or an ASM16 index above 14. -/
  | invalidLength
  /-- 3: an I2C byte the core wrote was NACKed and NACK_IS_FAULT = true. -/
  | busFault
  /-- 4: a configuration register makes the command impossible. -/
  | invalidConfig
  /-- 5: the command word matches no row of the opcode map. -/
  | illegalCommand
deriving DecidableEq, Repr

/-- POLL_INFO.STATE (R42). The values 6 and 7 are never produced and have no constructor (log 18). -/
inductive PollState where
  /-- 0 -/
  | idle
  /-- 1 -/
  | evaluate
  /-- 2, terminal -/
  | ready
  /-- 3 -/
  | retry
  /-- 4, terminal -/
  | timeout
  /-- 5, terminal (D31) -/
  | faulted
deriving DecidableEq, Repr

/-- A position inside the framed part of a command: the next marker of its pseudocode (R15, R52), with the local
variables the rules keep there (an answer waiting to be checked, a byte count, the fraction d.F). -/
inductive Pos where
  /-- the transaction's first primitive -/
  | first
  /-- next: `I2C.write(DEV << 1 | 0)` -/
  | i2cAddress
  /-- next: check the address byte's answer, `I2C.write(A8)` -/
  | i2cRegister (a : Ack)
  /-- I2C.WRITE, next: check the register byte's answer, `I2C.write(D8)` -/
  | i2cData (a : Ack)
  /-- I2C.WRITE, next: check the data byte's answer, `I2C.stop()` -/
  | i2cWritten (a : Ack)
  /-- I2C.READ, next: check the register byte's answer, `I2C.rstart()` -/
  | i2cRestart (a : Ack)
  /-- I2C.READ, next: `I2C.write(DEV << 1 | 1)` -/
  | i2cReadAddress
  /-- I2C.READ, next: check the read address's answer, `I2C.read` of byte 0 -/
  | i2cReadFirst (a : Ack)
  /-- I2C.READ with `i` bytes received, next: `I2C.read` of byte i, or `I2C.stop()` -/
  | i2cByte (i : Nat)
  /-- next: `SPI.xfer(A8)` -/
  | spiInstr
  /-- next: `SPI.xfer(MADDR.ADDR[15:8])` -/
  | spiAddrHigh
  /-- next: `SPI.xfer(MADDR.ADDR[7:0])` -/
  | spiAddrLow
  /-- SPI.WRITE, next: `SPI.xfer(D8)` -/
  | spiData
  /-- SPI.READ and SPI.CMDR with `i` bytes received, next: `SPI.xfer(SPI_DUMMY)` into byte i, or `SPI.cs_deassert()` -/
  | spiByte (i : Nat)
  /-- SPI.WRITE and SPI.CMD, next: `SPI.cs_deassert()` -/
  | spiRelease
  /-- UART.WRITE, next: test TX-full of the flag word read last -/
  | uartTx (fr : Word)
  /-- UART.READ, next: test RX-empty of the flag word read last, for byte i -/
  | uartRx (i : Nat) (fr : Word)
  /-- UART.READ with `i` bytes received, next: the flag read of byte i, or the end -/
  | uartNext (i : Nat)
  /-- UART.INIT, next: write d.F to the fractional divisor -/
  | uartFbrd (f : BitVec 6)
  /-- UART.INIT, next: write UART_LCR to the line control -/
  | uartLcr
  /-- UART.INIT, next: write UART_CR to the control register -/
  | uartCr
  /-- next: `complete(r)`, or, in a poll attempt, the end of the attempt with outcome r (R251) -/
  | ended (r : Result)
deriving DecidableEq, Repr

/-- The sequencer phase (R52): the next statement of the running command. -/
inductive Phase where
  /-- no command -/
  | idle
  /-- the first statement of the pseudocode of `decode(CUR)` (R130) -/
  | start
  /-- inside the command's own transaction -/
  | txn (p : Pos)
  /-- POLL.RUN, at the test of its `while` (R262) -/
  | pollTest
  /-- inside the status transaction of a poll attempt (R251, R252) -/
  | pollAttempt (p : Pos)
  /-- POLL.STEP, at `complete(code_of(STATE))` (R258) -/
  | pollEnd
deriving DecidableEq, Repr

/-- The recorded events (R14, R80, R320), and the host's accesses, since "a claim about the core is a claim about the
sequence of host-port values and bus-primitive events" (R8). -/
inductive Event where
  /-- `I2C.start()` -/
  | i2cStart
  /-- `I2C.rstart()` -/
  | i2cRstart
  /-- `a <- I2C.write(b)` -/
  | i2cWrite (b : Byte) (a : Ack)
  /-- `b <- I2C.read(last)` -/
  | i2cRead (last : Bool) (b : Byte)
  /-- `I2C.stop()` -/
  | i2cStop
  /-- `SPI.cs_assert()` -/
  | csAssert
  /-- `received <- SPI.xfer(sent)` -/
  | spiXfer (sent received : Byte)
  /-- `SPI.cs_deassert()` -/
  | csDeassert
  /-- `v <- MemRead(addr, 4)` on the UART master port -/
  | memRead (addr : Nat) (v : Word)
  /-- `MemWrite(addr, 4, v)` on the UART master port -/
  | memWrite (addr : Nat) (v : Word)
  /-- `v <- HostRead(off)` -/
  | hostRead (off : Nat) (v : Word)
  /-- `HostWrite(off, v)` -/
  | hostWrite (off : Nat) (v : Word)
  /-- RESET (R320) -/
  | reset
deriving DecidableEq, Repr

/-- The three bus ports (R3, R9). -/
inductive Bus where
  | i2c
  | spi
  | uart
deriving DecidableEq, Repr

/-- What a transport answers to one primitive (R80). `I2C.write` reads the acknowledge, `I2C.read` and `SPI.xfer` the
low byte of the data, `MemRead` the data; a primitive with no answer reads nothing. -/
structure Answer where
  ack : Ack
  data : Word
deriving DecidableEq, Repr

/-- What a transport does when the sequencer's next marker is one of its primitives (R81, R132). -/
inductive Reply where
  /-- it completes the primitive with this answer -/
  | answer (a : Answer)
  /-- it does not complete the primitive on this turn -/
  | pending
  /-- it never completes it: the sequencer is stuck (R81) -/
  | never
deriving DecidableEq, Repr

/-- A host access (R71): an address, a width in bytes, and the value of a write. -/
structure HostAccess where
  addr : Nat
  bytes : Nat
  /-- `some v` writes v, `none` reads -/
  value : Option Word
deriving DecidableEq, Repr

/-- Whose step comes next (R9, R90). -/
inductive Turn where
  /-- the sequencer takes its enabled step, if it has one (R132) -/
  | sequencer
  /-- the host performs one access (R71) -/
  | host (a : HostAccess)
  /-- the reset event (R320) -/
  | reset
deriving DecidableEq, Repr

/-- Why a step stops with a fault. No outcome of the core is a trap (R296), so the spec gives no fault; the one
below is the model's. -/
inductive Fault where
  /-- Raised by a sequencer step whose phase is no position of the running command. Reset and every step keep the phase in
  step with CUR, so no run reaches it (log 11). Safe: it only stops. -/
  | strayPhase
deriving DecidableEq, Repr

/-- Why a step is refused. -/
inductive Refusal where
  /-- Raised by `exec` for an instruction that has no meaning yet. Safe. -/
  | notModelled (mnemonic : String)
  /-- Raised by a host access that is not 32 bits wide: "A model refuses it" (R71). Safe. -/
  | hostWidth
  /-- Raised by a host access at an offset that is not a multiple of 4 (R71). Safe. -/
  | hostAlignment
  /-- Raised by a host access outside the window (R71). Safe. -/
  | hostWindow
  /-- Raised by every step of a machine whose UART offsets are not multiples of 4: "A model refuses parameter values that
  are not" (R85). Safe. -/
  | parameterAlignment
deriving DecidableEq, Repr

/-- The architectural state of 10_state.md, then the model's own fields: the parameters (R7), the inputs from the other
agents (R9), the counter of free draws, and the history. -/
structure State where
  /-- CUR: the command word accepted last (R48) -/
  cur : Word
  /-- STATUS.BUSY (R33) -/
  busy : Bool
  /-- STATUS.DONE (R33) -/
  done : Bool
  /-- STATUS.REJECT (R33) -/
  reject : Bool
  /-- CS: the chip-select line is asserted (R49), STATUS.CS_ASSERTED -/
  cs : Bool
  /-- HELD: the core holds the I2C bus (R50), STATUS.I2C_HELD -/
  held : Bool
  /-- STATUS.RESULT (R33, R290) -/
  result : Result
  /-- I2C_DEV.DEV (R34) -/
  i2cDev : BitVec 7
  /-- MADDR.ADDR (R35) -/
  maddr : Half
  /-- CLK_HZ (R36) -/
  clkHz : Word
  /-- BAUD (R36) -/
  baud : Word
  /-- BAUDDIV.IBRD (R37) -/
  ibrd : Half
  /-- BAUDDIV.FBRD (R37) -/
  fbrd : BitVec 6
  /-- UART_LCR (R38) -/
  uartLcr : Word
  /-- UART_CR (R38) -/
  uartCr : Word
  /-- POLL_CFG.MASK (R39) -/
  pollMask : Byte
  /-- POLL_CFG.MATCH (R39) -/
  pollMatch : Byte
  /-- POLL_CFG.MAX (R39) -/
  pollMax : Half
  /-- POLL_TXN (R40) -/
  pollTxn : Word
  /-- POLL_INFO.LAST (R41) -/
  pollLast : Byte
  /-- POLL_INFO.STATE (R42) -/
  pollState : PollState
  /-- POLL_INFO.ATTEMPTS (R41) -/
  pollAttempts : Half
  /-- ASMV (R43) -/
  asmv : Half
  /-- CH0 to CH5 (R44) -/
  ch : Vector Half 6
  /-- RXBUF[0..15] (R45) -/
  rxbuf : Vector Byte 16
  /-- the sequencer phase (R52) -/
  phase : Phase
  /-- MODEL: the parameters of R7; no step changes them (R54, log 6) -/
  params : Params
  /-- MODEL: whose steps come next; when empty, the sequencer's (R90, log 2) -/
  agenda : List Turn
  /-- MODEL: the I2C transport's next replies; when empty, a free draw (R9, log 4) -/
  i2cReplies : List Reply
  /-- MODEL: the SPI transport's next replies -/
  spiReplies : List Reply
  /-- MODEL: the UART transport's next replies -/
  uartReplies : List Reply
  /-- MODEL: how many free values the transports have given (log 4) -/
  drawn : Nat
  /-- the history: "the list of events in order" (R90), oldest first (log 9) -/
  history : List Event
deriving DecidableEq, Repr

/-- The machine right after reset: every value of R55. The model's own fields stand as logs 1, 2, 4 and 6 say. -/
def State.reset : State where
  cur := 0
  busy := false
  done := false
  reject := false
  cs := false
  held := false
  result := .ok
  i2cDev := 0
  maddr := 0
  clkHz := 0
  baud := 0
  ibrd := 0
  fbrd := 0
  uartLcr := 0
  uartCr := 0
  pollMask := 0
  pollMatch := 0
  pollMax := 0
  pollTxn := 0
  pollLast := 0
  pollState := .idle
  pollAttempts := 0
  asmv := 0
  ch := Vector.replicate 6 0
  rxbuf := Vector.replicate 16 0
  phase := .idle
  params := Config.params
  agenda := []
  i2cReplies := []
  spiReplies := []
  uartReplies := []
  drawn := 0
  history := []

/-- The three outcomes of a step of this machine. -/
abbrev Out := Host.Outcome State Fault Refusal

end Sys2Proof.Machine
end

