-- ==== Sys2Proof/Machine/Operands.lean ====
section
/-! DEFINITION. The operand forms: the bytes and words the commands compute from their fields and registers. -/

namespace Sys2Proof.Machine

/-- AW = DEV << 1 | 0, "computed in 8 bits from the 7-bit DEV" (R183). -/
def addressWrite (dev : BitVec 7) : Byte := (dev ++ 0#1 : BitVec (7 + 1))

/-- AR = DEV << 1 | 1 (R183). -/
def addressRead (dev : BitVec 7) : Byte := (dev ++ 1#1 : BitVec (7 + 1))

/-- `v[15:8]` of a 16-bit value: sent first (R83, R203). -/
def highByte (v : Half) : Byte := v.extractLsb' 8 8

/-- `v[7:0]` of a 16-bit value (R83, R203). -/
def lowByte (v : Half) : Byte := v.extractLsb' 0 8

/-- Bits [7:0] of an answer's data: a received byte (R77, R80). -/
def dataByte (v : Word) : Byte := v.extractLsb' 0 8

/-- raw16(h, l) = (zext_16(h) << 8) | zext_16(l), the high byte first (R231). -/
def raw16 (h l : Byte) : Half := (h ++ l : BitVec (8 + 8))

/-- signed16 of a 16-bit pattern (R11, R231). -/
def signed16 (v : Half) : Int := v.toInt

/-- A read length is valid from 1 to LEN_MAX (R107). -/
def lenValid (len : Nat) : Bool := 1 ≤ len && len ≤ Config.lenMax

/-- `divisor` of R151 before its validity test, on unbounded integers: N, the ideal divisor in 1/64 units rounded to the
nearest integer, an exact half up. -/
def divisorUnits (clk baud : Nat) : Nat := (8 * clk + baud) / (2 * baud)

/-- valid(I, F) of R152. -/
def divisorValid (i f : Nat) : Bool := 1 ≤ i && i ≤ Config.ibrdMax && !(i == Config.ibrdMax && f != 0)

/-- `divisor(clk, baud)` of R151: the integer part and the fraction in 1/64 units, `none` for INVALID. -/
def divisor (clk baud : Nat) : Option (Nat × Nat) :=
  if baud = 0 then none
  else
    let n := divisorUnits clk baud
    if divisorValid (n / 64) (n % 64) then some (n / 64, n % 64) else none

/-- RXBUF[i] (R45). -/
def rxByte (s : State) (i : Nat) : Byte := s.rxbuf.getD i 0

/-- The status transaction of POLL_TXN, if its word is valid (R108): I2C.READ, SPI.READ, SPI.CMDR or UART.READ with
LEN = 1, and for I2C.READ a nonzero I2C_DEV (R251). -/
def statusTxn (s : State) : Option Instr :=
  match decode s.pollTxn with
  | .ok (.i2cRead reg len) => if len = 1 ∧ s.i2cDev ≠ 0 then some (.i2cRead reg len) else none
  | .ok (.spiRead instr len) => if len = 1 then some (.spiRead instr len) else none
  | .ok (.spiCmdr instr len) => if len = 1 then some (.spiCmdr instr len) else none
  | .ok (.uartRead len) => if len = 1 then some (.uartRead len) else none
  | _ => none

/-- `txn_ok()` of R251. -/
def txnOk (s : State) : Bool := (statusTxn s).isSome

end Sys2Proof.Machine
end

