-- ==== Sys2Proof/Machine/Flags.lean ====
section
/-! DEFINITION. The flags: the numbers of the result codes and poll states, the packed registers STATUS and POLL_INFO,
the ready predicate and the result of a poll state (R33, R41, R42, R53, R250, R253, R290). -/

namespace Sys2Proof.Machine

/-- The numeric result codes of R290. -/
def resultCode : Result → BitVec 4
  | .ok => 0
  | .timeout => 1
  | .invalidLength => 2
  | .busFault => 3
  | .invalidConfig => 4
  | .illegalCommand => 5

/-- The numeric poll states of R42. -/
def pollStateCode : PollState → BitVec 3
  | .idle => 0
  | .evaluate => 1
  | .ready => 2
  | .retry => 3
  | .timeout => 4
  | .faulted => 5

/-- The terminal poll states: Ready, Timeout, Faulted (R42, R252). -/
def terminal : PollState → Bool
  | .idle => false
  | .evaluate => false
  | .ready => true
  | .retry => false
  | .timeout => true
  | .faulted => true

/-- `code_of` (R253). -/
def codeOf : PollState → Result
  | .idle => .ok
  | .evaluate => .ok
  | .ready => .ok
  | .retry => .ok
  | .timeout => .timeout
  | .faulted => .busFault

/-- The ready predicate: `(b & MASK) == MATCH` (R250). -/
def ready (s : State) (b : Byte) : Bool := b &&& s.pollMask == s.pollMatch

/-- The word STATUS reads (R33): BUSY, DONE, REJECT, CS_ASSERTED, I2C_HELD in bits 0 to 4, RESULT in bits [11:8]. -/
def statusWord (s : State) : Word :=
  (0#20 ++ resultCode s.result ++ 0#3 ++ BitVec.ofBool s.held ++ BitVec.ofBool s.cs ++ BitVec.ofBool s.reject
    ++ BitVec.ofBool s.done ++ BitVec.ofBool s.busy : BitVec (20 + 4 + 3 + 1 + 1 + 1 + 1 + 1))

/-- The word POLL_INFO reads (R41): LAST in bits [7:0], STATE in [10:8], ATTEMPTS in [31:16]. -/
def pollInfoWord (s : State) : Word :=
  (s.pollAttempts ++ 0#5 ++ pollStateCode s.pollState ++ s.pollLast : BitVec (16 + 5 + 3 + 8))

/-- The core is *quiescent* when STATUS.BUSY = 0 (R139). -/
def quiescent (s : State) : Bool := !s.busy

end Sys2Proof.Machine
end

