-- ==== Sys2Proof/Machine/Ops.lean ====
section
/-! DEFINITION. The shared operations: acceptance and completion (R130, R134), the transports' replies (R81), the bus
primitives (R80) and the running of a framed command one marker at a time (R15, R132). The core takes no exception
(R296): `complete` is how every command ends, with or without an error. -/

namespace Sys2Proof.Machine

/-- The history gains one event (R14, R90). -/
def record (e : Event) (s : State) : State := { s with history := s.history ++ [e] }

/-- The sequencer's next statement becomes p (R52). -/
def goto (p : Phase) (s : State) : State := { s with phase := p }

/-- Command acceptance (R130): CUR, BUSY, DONE, REJECT and the phase, in one step; RESULT keeps its old value. -/
def accept (w : Word) (s : State) : State :=
  { s with cur := w, busy := true, done := false, reject := false, phase := .start }

/-- `complete(code)` (R134), and `raise CODE()` (R15). -/
def complete (code : Result) (s : State) : State :=
  { s with result := code, busy := false, done := true, phase := .idle }

/-- The reset event (R320): every piece of state to its value in R55, and RESET in the history. It emits no primitive.
The parameters and the other agents' inputs are no state of the core (R54) and stay. -/
def resetEvent (s : State) : State :=
  { State.reset with
    params := s.params, agenda := s.agenda, i2cReplies := s.i2cReplies, spiReplies := s.spiReplies,
    uartReplies := s.uartReplies, drawn := s.drawn, history := s.history ++ [.reset] }

/-- RXBUF[i] <- b (R46). Every caller has i below LEN, so below 16 (R45). -/
def storeRx (i : Nat) (b : Byte) (s : State) : State := { s with rxbuf := s.rxbuf.setIfInBounds i b }

/-- BAUDDIV.IBRD <- d.I and BAUDDIV.FBRD <- d.F (R150, R155). -/
def setDivisor (i f : Nat) (s : State) : State := { s with ibrd := BitVec.ofNat 16 i, fbrd := BitVec.ofNat 6 f }

/-- STATE <- Idle, ATTEMPTS <- 0, LAST <- 0 (R255, R262). -/
def armPoll (s : State) : State := { s with pollState := .idle, pollAttempts := 0, pollLast := 0 }

/-- The n-th free draw of a transport (R9): no proof can see it (log 4). -/
def freeAnswer (n : Nat) : Answer := ⟨if Config.freeNack n then .nack else .ack, Config.freeData n⟩

/-- The replies a state holds for a bus. -/
def repliesOf (b : Bus) (s : State) : List Reply :=
  match b with
  | .i2c => s.i2cReplies
  | .spi => s.spiReplies
  | .uart => s.uartReplies

/-- The replies of one bus change. -/
def setReplies (b : Bus) (rs : List Reply) (s : State) : State :=
  match b with
  | .i2c => { s with i2cReplies := rs }
  | .spi => { s with spiReplies := rs }
  | .uart => { s with uartReplies := rs }

/-- What the transport of bus b does with the next primitive: the first reply the state holds, else it completes with a
free draw (R9, R81, log 4). -/
def nextReply (b : Bus) (s : State) : Reply :=
  match repliesOf b s with
  | [] => .answer (freeAnswer s.drawn)
  | r :: _ => r

/-- The reply is used up; one that never comes stays (R81). -/
def popReply (b : Bus) (s : State) : State :=
  match repliesOf b s with
  | [] => { s with drawn := s.drawn + 1 }
  | .never :: _ => s
  | _ :: rest => setReplies b rest s

/-- How far one sequencer step carries a transaction. -/
inductive Progress where
  /-- a primitive took place; the transaction stands at p -/
  | reached (p : Pos) (s : State)
  /-- the transport did not complete the primitive: no step of the sequencer (R81, R132) -/
  | waits (s : State)
  /-- the command is at its `complete(r)` -/
  | ended (r : Result)
  /-- the position is none of this transaction's -/
  | stray
deriving DecidableEq, Repr

/-- One primitive on bus b: it takes place when the transport completes it, and `k` says what its answer does (R80, R81). -/
def onBus (b : Bus) (s : State) (k : Answer → State → Progress) : Progress :=
  match nextReply b s with
  | .answer a => k a (popReply b s)
  | .pending => .waits (popReply b s)
  | .never => .waits (popReply b s)

/-- `I2C.start()`: HELD <- true (R80). -/
def i2cStart (next : Pos) (s : State) : Progress :=
  onBus .i2c s fun _ t => .reached next (record .i2cStart { t with held := true })

/-- `I2C.rstart()` (R80). -/
def i2cRstart (next : Pos) (s : State) : Progress :=
  onBus .i2c s fun _ t => .reached next (record .i2cRstart t)

/-- `ack <- I2C.write(b)` (R80): the answer is a local variable of the command (R15), kept in the next position. -/
def i2cWrite (b : Byte) (next : Ack → Pos) (s : State) : Progress :=
  onBus .i2c s fun a t => .reached (next a.ack) (record (.i2cWrite b a.ack) t)

/-- `RXBUF[i] <- I2C.read(last)` (R80, R188). -/
def i2cRead (i : Nat) (last : Bool) (next : Pos) (s : State) : Progress :=
  onBus .i2c s fun a t => .reached next (record (.i2cRead last (dataByte a.data)) (storeRx i (dataByte a.data) t))

/-- `I2C.stop()`: HELD <- false (R80). -/
def i2cStop (next : Pos) (s : State) : Progress :=
  onBus .i2c s fun _ t => .reached next (record .i2cStop { t with held := false })

/-- `SPI.cs_assert()`: CS <- asserted (R80). -/
def csAssert (next : Pos) (s : State) : Progress :=
  onBus .spi s fun _ t => .reached next (record .csAssert { t with cs := true })

/-- `SPI.cs_deassert()`: CS <- deasserted (R80). -/
def csDeassert (next : Pos) (s : State) : Progress :=
  onBus .spi s fun _ t => .reached next (record .csDeassert { t with cs := false })

/-- `SPI.xfer(out)` with its answer discarded (R201). -/
def spiSend (out : Byte) (next : Pos) (s : State) : Progress :=
  onBus .spi s fun a t => .reached next (record (.spiXfer out (dataByte a.data)) t)

/-- `RXBUF[i] <- SPI.xfer(SPI_DUMMY)` (R202, R208). -/
def spiReceive (i : Nat) (next : Pos) (s : State) : Progress :=
  onBus .spi s fun a t =>
    .reached next (record (.spiXfer Config.spiDummy (dataByte a.data)) (storeRx i (dataByte a.data) t))

/-- The address `UART_BASE + off` of the UART register window (R70, R75). -/
def uartAddr (off : Nat) (s : State) : Nat := 4 * s.params.uartBaseWords + off

/-- `fr <- MemRead(UART_BASE + UART_FR_OFF, 4)` (R160, R165): fr is a local variable, kept in the next position. -/
def uartReadFlags (next : Word → Pos) (s : State) : Progress :=
  onBus .uart s fun a t => .reached (next a.data) (record (.memRead (uartAddr s.params.uartFrOff s) a.data) t)

/-- `RXBUF[i] <- MemRead(UART_BASE + UART_DR_OFF, 4)[7:0]` (R77, R165). -/
def uartReceive (i : Nat) (next : Pos) (s : State) : Progress :=
  onBus .uart s fun a t =>
    .reached next (record (.memRead (uartAddr s.params.uartDrOff s) a.data) (storeRx i (dataByte a.data) t))

/-- `MemWrite(UART_BASE + off, 4, v)` (R75), in one step with the register updates `upd` written before it (R15). -/
def uartWriteReg (off : Nat) (v : Word) (upd : State → State) (next : Pos) (s : State) : Progress :=
  onBus .uart s fun _ t => .reached next (record (.memWrite (uartAddr off s) v) (upd t))

/-- Acknowledge handling (R182): a NACK with NACK_IS_FAULT gives STOP, then BUS_FAULT; otherwise the command goes on. -/
def checkAck (a : Ack) (s : State) (goOn : Progress) : Progress :=
  if s.params.nackIsFault ∧ a = .nack then i2cStop (.ended .busFault) s else goOn

/-- The end of a sequencer step inside the command's own transaction (R15, R132): the phase moves to the next marker, or
the command completes. -/
def settle (g : Progress) (s : State) : Out :=
  match g with
  | .reached p t => .next (goto (.txn p) t)
  | .waits t => .next t
  | .ended r => .next (complete r s)
  | .stray => .fault .strayPhase

/-- A command of one step: its pseudocode runs from the start to its `complete` (R138, R150, R230). -/
def atStart (s : State) (run : Out) : Out :=
  match s.phase with
  | .start => run
  | _ => .fault .strayPhase

/-- A framed command: `enter` makes the checks and performs the first primitive in the command's first step (R133), and
`next` performs the marker at a position. -/
def framed (s : State) (enter : Out) (next : Pos → State → Progress) : Out :=
  match s.phase with
  | .start => enter
  | .txn p => settle (next p s) s
  | _ => .fault .strayPhase

end Sys2Proof.Machine
end

