-- ==== Sys2Proof/Machine/Assemble.lean ====
section
/-! DEFINITION. ASM16 and ASM.SAMPLE (44_assemble.md). -/

namespace Sys2Proof.Machine

/-- ASM16 k (R230): ASMV <- RXBUF[k] ++ RXBUF[k+1], the high byte first; INVALID_LENGTH above RXBUF_SIZE - 2. -/
def execAsm16 (k : Nat) (s : State) : Out :=
  atStart s <|
    if Config.rxbufSize - 2 < k then .next (complete .invalidLength s)
    else .next (complete .ok { s with asmv := raw16 (rxByte s k) (rxByte s (k + 1)) })

/-- The pair at offset o of RXBUF, the high byte first (R235). -/
def pairAt (s : State) (o : Nat) : Half := raw16 (rxByte s o) (rxByte s (o + 1))

/-- ASM.SAMPLE (R235): all six channels in one step, at the offsets OFF; bytes 6 and 7 are skipped (R236). -/
def execAsmSample (s : State) : Out :=
  atStart s <|
    .next (complete .ok
      { s with ch := #v[pairAt s 0, pairAt s 2, pairAt s 4, pairAt s 8, pairAt s 10, pairAt s 12] })

end Sys2Proof.Machine
end

