-- ==== Sys2Proof/Machine/Control.lean ====
section
/-! DEFINITION. NOP, and a word that decodes to no command (40_control.md). -/

namespace Sys2Proof.Machine

/-- NOP: `complete(OK)` (R138). -/
def execNop (s : State) : Out := atStart s (.next (complete .ok s))

/-- An illegal word ends with ILLEGAL_COMMAND in its first step (R105, R133): no primitive, no register but STATUS. -/
def illegalCommand (s : State) : Out := atStart s (.next (complete .illegalCommand s))

end Sys2Proof.Machine
end

