-- ==== Sys2Proof/Machine/I2c.lean ====
section
/-! DEFINITION. I2C.WRITE and I2C.READ (42_i2c.md). -/

namespace Sys2Proof.Machine

/-- The markers of I2C.WRITE (R185): START, AW, register, data, STOP, each answer checked in the next step (R15, R182). -/
def i2cWriteStep (reg d8 : Byte) (p : Pos) (s : State) : Progress :=
  match p with
  | .first => i2cStart .i2cAddress s
  | .i2cAddress => i2cWrite (addressWrite s.i2cDev) .i2cRegister s
  | .i2cRegister a => checkAck a s (i2cWrite reg .i2cData s)
  | .i2cData a => checkAck a s (i2cWrite d8 .i2cWritten s)
  | .i2cWritten a => checkAck a s (i2cStop (.ended .ok) s)
  | .ended r => .ended r
  | _ => .stray

/-- I2C.WRITE reg, d8 (R185): INVALID_CONFIG with no primitive when DEV = 0 (R180). -/
def execI2cWrite (reg d8 : Byte) (s : State) : Out :=
  framed s
    (if s.i2cDev = 0 then .next (complete .invalidConfig s) else settle (i2cWriteStep reg d8 .first s) s)
    (i2cWriteStep reg d8)

/-- The loop of I2C.READ with i bytes received (R188): the next byte, `last` on the final one, or STOP. -/
def i2cReadNext (len i : Nat) (s : State) : Progress :=
  if i < len then i2cRead i (i + 1 == len) (.i2cByte (i + 1)) s else i2cStop (.ended .ok) s

/-- The markers of I2C.READ (R188): START, AW, register, repeated START, AR, LEN bytes, STOP. -/
def i2cReadStep (reg : Byte) (len : Nat) (p : Pos) (s : State) : Progress :=
  match p with
  | .first => i2cStart .i2cAddress s
  | .i2cAddress => i2cWrite (addressWrite s.i2cDev) .i2cRegister s
  | .i2cRegister a => checkAck a s (i2cWrite reg .i2cRestart s)
  | .i2cRestart a => checkAck a s (i2cRstart .i2cReadAddress s)
  | .i2cReadAddress => i2cWrite (addressRead s.i2cDev) .i2cReadFirst s
  | .i2cReadFirst a => checkAck a s (i2cReadNext len 0 s)
  | .i2cByte i => i2cReadNext len i s
  | .ended r => .ended r
  | _ => .stray

/-- I2C.READ reg, len (R188): INVALID_CONFIG when DEV = 0, then INVALID_LENGTH outside 1 to 16 (R133). -/
def execI2cRead (reg : Byte) (len : Nat) (s : State) : Out :=
  framed s
    (if s.i2cDev = 0 then .next (complete .invalidConfig s)
    else if lenValid len then settle (i2cReadStep reg len .first s) s
    else .next (complete .invalidLength s))
    (i2cReadStep reg len)

end Sys2Proof.Machine
end

