-- ==== Sys2Proof/Machine/Spi.lean ====
section
/-! DEFINITION. SPI.WRITE, SPI.READ, SPI.CMD, SPI.CMDR (43_spi.md). -/

namespace Sys2Proof.Machine

/-- The markers of SPI.WRITE (R205): assert, instruction, address high, address low, data, deassert. -/
def spiWriteStep (instr d8 : Byte) (p : Pos) (s : State) : Progress :=
  match p with
  | .first => csAssert .spiInstr s
  | .spiInstr => spiSend instr .spiAddrHigh s
  | .spiAddrHigh => spiSend (highByte s.maddr) .spiAddrLow s
  | .spiAddrLow => spiSend (lowByte s.maddr) .spiData s
  | .spiData => spiSend d8 .spiRelease s
  | .spiRelease => csDeassert (.ended .ok) s
  | .ended r => .ended r
  | _ => .stray

/-- SPI.WRITE instr, d8 (R205). It has no check. -/
def execSpiWrite (instr d8 : Byte) (s : State) : Out :=
  framed s (settle (spiWriteStep instr d8 .first s) s) (spiWriteStep instr d8)

/-- The loop of SPI.READ and SPI.CMDR with i bytes received (R208, R214): the next dummy transfer, or deassert. -/
def spiReadNext (len i : Nat) (s : State) : Progress :=
  if i < len then spiReceive i (.spiByte (i + 1)) s else csDeassert (.ended .ok) s

/-- The markers of SPI.READ (R208): assert, instruction, address high, address low, LEN dummy transfers, deassert. -/
def spiReadStep (instr : Byte) (len : Nat) (p : Pos) (s : State) : Progress :=
  match p with
  | .first => csAssert .spiInstr s
  | .spiInstr => spiSend instr .spiAddrHigh s
  | .spiAddrHigh => spiSend (highByte s.maddr) .spiAddrLow s
  | .spiAddrLow => spiSend (lowByte s.maddr) (.spiByte 0) s
  | .spiByte i => spiReadNext len i s
  | .ended r => .ended r
  | _ => .stray

/-- SPI.READ instr, len (R208): INVALID_LENGTH outside 1 to 16, with no primitive. -/
def execSpiRead (instr : Byte) (len : Nat) (s : State) : Out :=
  framed s
    (if lenValid len then settle (spiReadStep instr len .first s) s else .next (complete .invalidLength s))
    (spiReadStep instr len)

/-- The markers of SPI.CMD (R211): assert, instruction, deassert. -/
def spiCmdStep (instr : Byte) (p : Pos) (s : State) : Progress :=
  match p with
  | .first => csAssert .spiInstr s
  | .spiInstr => spiSend instr .spiRelease s
  | .spiRelease => csDeassert (.ended .ok) s
  | .ended r => .ended r
  | _ => .stray

/-- SPI.CMD instr (R211). It has no check. -/
def execSpiCmd (instr : Byte) (s : State) : Out :=
  framed s (settle (spiCmdStep instr .first s) s) (spiCmdStep instr)

/-- The markers of SPI.CMDR (R214): assert, instruction, LEN dummy transfers, deassert. -/
def spiCmdrStep (instr : Byte) (len : Nat) (p : Pos) (s : State) : Progress :=
  match p with
  | .first => csAssert .spiInstr s
  | .spiInstr => spiSend instr (.spiByte 0) s
  | .spiByte i => spiReadNext len i s
  | .ended r => .ended r
  | _ => .stray

/-- SPI.CMDR instr, len (R214): INVALID_LENGTH outside 1 to 16, with no primitive. -/
def execSpiCmdr (instr : Byte) (len : Nat) (s : State) : Out :=
  framed s
    (if lenValid len then settle (spiCmdrStep instr len .first s) s else .next (complete .invalidLength s))
    (spiCmdrStep instr len)

end Sys2Proof.Machine
end

