-- ==== Sys2Proof/Machine/Uart.lean ====
section
/-! DEFINITION. BAUD.CALC, UART.INIT, UART.WRITE, UART.READ (41_uart_baud.md). -/

namespace Sys2Proof.Machine

/-- BAUD.CALC (R150): the divisor of CLK_HZ and BAUD into BAUDDIV, or INVALID_CONFIG with BAUDDIV unchanged. -/
def execBaudCalc (s : State) : Out :=
  atStart s <|
    match divisor s.clkHz.toNat s.baud.toNat with
    | none => .next (complete .invalidConfig s)
    | some (i, f) => .next (complete .ok (setDivisor i f s))

/-- The markers of UART.INIT after its first write (R155): FBRD, line control, control. -/
def uartInitStep (p : Pos) (s : State) : Progress :=
  match p with
  | .uartFbrd f => uartWriteReg s.params.uartFbrdOff (f.setWidth 32) id .uartLcr s
  | .uartLcr => uartWriteReg s.params.uartLcrOff s.uartLcr id .uartCr s
  | .uartCr => uartWriteReg s.params.uartCrOff s.uartCr id (.ended .ok) s
  | .ended r => .ended r
  | _ => .stray

/-- UART.INIT (R155): BAUDDIV changes in the step of the first MemWrite, which writes d.I. -/
def execUartInit (s : State) : Out :=
  framed s
    (match divisor s.clkHz.toNat s.baud.toNat with
    | none => .next (complete .invalidConfig s)
    | some (i, f) =>
      settle
        (uartWriteReg s.params.uartIbrdOff ((BitVec.ofNat 16 i).setWidth 32) (setDivisor i f)
          (.uartFbrd (BitVec.ofNat 6 f)) s) s)
    uartInitStep

/-- The markers of UART.WRITE (R160): read the flags until TX-full is 0, then write the data register. -/
def uartWriteStep (d8 : Byte) (p : Pos) (s : State) : Progress :=
  match p with
  | .first => uartReadFlags .uartTx s
  | .uartTx fr =>
    if fr.getLsbD s.params.frTxffBit then uartReadFlags .uartTx s
    else uartWriteReg s.params.uartDrOff (d8.setWidth 32) id (.ended .ok) s
  | .ended r => .ended r
  | _ => .stray

/-- UART.WRITE d8 (R160). It has no check. -/
def execUartWrite (d8 : Byte) (s : State) : Out :=
  framed s (settle (uartWriteStep d8 .first s) s) (uartWriteStep d8)

/-- The markers of UART.READ (R165): for each byte, read the flags until RX-empty is 0, then read the data register once. -/
def uartReadStep (len : Nat) (p : Pos) (s : State) : Progress :=
  match p with
  | .first => uartReadFlags (.uartRx 0) s
  | .uartRx i fr =>
    if fr.getLsbD s.params.frRxfeBit then uartReadFlags (.uartRx i) s else uartReceive i (.uartNext (i + 1)) s
  | .uartNext i => if i < len then uartReadFlags (.uartRx i) s else .ended .ok
  | .ended r => .ended r
  | _ => .stray

/-- UART.READ len (R165): INVALID_LENGTH outside 1 to 16, with no UART access. -/
def execUartRead (len : Nat) (s : State) : Out :=
  framed s
    (if lenValid len then settle (uartReadStep len .first s) s else .next (complete .invalidLength s))
    (uartReadStep len)

end Sys2Proof.Machine
end

