-- ==== Sys2Proof/Machine/Poll.lean ====
section
/-! DEFINITION. POLL.INIT, POLL.STEP and POLL.RUN (45_poll.md). -/

namespace Sys2Proof.Machine

/-- The markers of one *attempt* (R251): exactly the primitives of the status transaction, with LEN = 1. -/
def statusStep (p : Pos) (s : State) : Progress :=
  match statusTxn s with
  | some (.i2cRead reg _) => i2cReadStep reg 1 p s
  | some (.spiRead instr _) => spiReadStep instr 1 p s
  | some (.spiCmdr instr _) => spiCmdrStep instr 1 p s
  | some (.uartRead _) => uartReadStep 1 p s
  | _ => .stray

/-- The `step` after an attempt (R252): ATTEMPTS counts it; OK takes its byte to Evaluate, a BUS_FAULT gives Faulted with
LAST unchanged. The next statement is `after`. -/
def attemptDone (r : Result) (after : Phase) (s : State) : State :=
  match r with
  | .ok =>
    { s with pollAttempts := s.pollAttempts + 1, pollLast := rxByte s 0, pollState := .evaluate, phase := after }
  | _ => { s with pollAttempts := s.pollAttempts + 1, pollState := .faulted, phase := after }

/-- One sequencer step of an attempt at a position of its transaction (R251, R252). -/
def attemptStep (after : Phase) (p : Pos) (s : State) : Out :=
  match statusStep p s with
  | .reached q t => .next (goto (.pollAttempt q) t)
  | .waits t => .next t
  | .ended r => .next (attemptDone r after s)
  | .stray => .fault .strayPhase

/-- The Evaluate transition: "The predicate is tested before the budget" (R252). -/
def evaluated (s : State) : PollState :=
  if ready s s.pollLast then .ready else if s.pollMax ≤ s.pollAttempts then .timeout else .retry

/-- The first sequencer step of `transition()` (R252); the statement after the transition is `after`. It never runs in a
terminal state. -/
def transition (after : Phase) (s : State) : Out :=
  match s.pollState with
  | .idle =>
    if s.pollMax ≤ s.pollAttempts then .next { s with pollState := .timeout, phase := after }
    else attemptStep after .first s
  | .evaluate => .next { s with pollState := evaluated s, phase := after }
  | .retry => .next { s with pollState := .idle, phase := after }
  | .ready => .fault .strayPhase
  | .timeout => .fault .strayPhase
  | .faulted => .fault .strayPhase

/-- POLL.INIT (R255): arms the poller, or INVALID_CONFIG with the poll state unchanged. -/
def execPollInit (s : State) : Out :=
  atStart s <|
    if txnOk s then .next (complete .ok (armPoll s)) else .next (complete .invalidConfig s)

/-- POLL.STEP (R258): one transition, then the code of the state it reached. -/
def execPollStep (s : State) : Out :=
  match s.phase with
  | .start =>
    if terminal s.pollState then .next (complete (codeOf s.pollState) s)
    else if s.pollState = .idle ∧ s.pollAttempts < s.pollMax ∧ !txnOk s then .next (complete .invalidConfig s)
    else transition .pollEnd s
  | .pollAttempt p => attemptStep .pollEnd p s
  | .pollEnd => .next (complete (codeOf s.pollState) s)
  | _ => .fault .strayPhase

/-- POLL.RUN (R262): arms the poller, then transitions until a terminal state, then its code. -/
def execPollRun (s : State) : Out :=
  match s.phase with
  | .start => if txnOk s then .next (goto .pollTest (armPoll s)) else .next (complete .invalidConfig s)
  | .pollTest => if terminal s.pollState then .next (complete (codeOf s.pollState) s) else transition .pollTest s
  | .pollAttempt p => attemptStep .pollTest p s
  | _ => .fault .strayPhase

end Sys2Proof.Machine
end

