-- ==== Sys2Proof/Machine/Dispatch.lean ====
section
/-! DEFINITION. One sequencer step of a command: one arm per constructor of Instr, each a direct call of its meaning. -/

namespace Sys2Proof.Machine

def exec (i : Instr) (s : State) : Host.Outcome State Fault Refusal :=
  match i with
  | .nop => Sys2Proof.Machine.execNop s
  | .baudCalc => Sys2Proof.Machine.execBaudCalc s
  | .uartInit => Sys2Proof.Machine.execUartInit s
  | .uartWrite d8 => Sys2Proof.Machine.execUartWrite d8 s
  | .uartRead len => Sys2Proof.Machine.execUartRead len s
  | .i2cWrite reg d8 => Sys2Proof.Machine.execI2cWrite reg d8 s
  | .i2cRead reg len => Sys2Proof.Machine.execI2cRead reg len s
  | .spiWrite instr d8 => Sys2Proof.Machine.execSpiWrite instr d8 s
  | .spiRead instr len => Sys2Proof.Machine.execSpiRead instr len s
  | .spiCmd instr => Sys2Proof.Machine.execSpiCmd instr s
  | .spiCmdr instr len => Sys2Proof.Machine.execSpiCmdr instr len s
  | .asm16 k => Sys2Proof.Machine.execAsm16 k s
  | .asmSample => Sys2Proof.Machine.execAsmSample s
  | .pollInit => Sys2Proof.Machine.execPollInit s
  | .pollStep => Sys2Proof.Machine.execPollStep s
  | .pollRun => Sys2Proof.Machine.execPollRun s

end Sys2Proof.Machine
end

