-- ==== Sys2Proof/Machine/Window.lean ====
section
/-! DEFINITION. The host port: the register window of R30, its access classes (R31) and one host access (R71 to R74). -/

namespace Sys2Proof.Machine

/-- The twenty registers of the window (R30). -/
inductive HostReg where
  | cmd | status | i2cDev | maddr | clkHz | baud | bauddiv | uartLcr | uartCr | pollCfg | pollTxn | pollInfo
  | asm | sample01 | sample23 | sample45 | rxbuf0 | rxbuf1 | rxbuf2 | rxbuf3
deriving DecidableEq, Repr

/-- The offset of a register (R30). -/
def regOffset : HostReg → Nat
  | .cmd => 0x00
  | .status => 0x04
  | .i2cDev => 0x08
  | .maddr => 0x0C
  | .clkHz => 0x10
  | .baud => 0x14
  | .bauddiv => 0x18
  | .uartLcr => 0x1C
  | .uartCr => 0x20
  | .pollCfg => 0x24
  | .pollTxn => 0x28
  | .pollInfo => 0x2C
  | .asm => 0x30
  | .sample01 => 0x34
  | .sample23 => 0x38
  | .sample45 => 0x3C
  | .rxbuf0 => 0x40
  | .rxbuf1 => 0x44
  | .rxbuf2 => 0x48
  | .rxbuf3 => 0x4C

/-- The registers in the order of R30. -/
def windowRegs : List HostReg :=
  [.cmd, .status, .i2cDev, .maddr, .clkHz, .baud, .bauddiv, .uartLcr, .uartCr, .pollCfg, .pollTxn, .pollInfo,
   .asm, .sample01, .sample23, .sample45, .rxbuf0, .rxbuf1, .rxbuf2, .rxbuf3]

/-- The register at an offset, `none` at a reserved one (R73). -/
def regAt (off : Nat) : Option HostReg := windowRegs.find? (regOffset · == off)

/-- CMD and the RW registers of R131: a write to one while BUSY = 1 is rejected. Every other register is RO (R31). -/
def writable : HostReg → Bool
  | .cmd => true
  | .i2cDev => true
  | .maddr => true
  | .clkHz => true
  | .baud => true
  | .uartLcr => true
  | .uartCr => true
  | .pollCfg => true
  | .pollTxn => true
  | .status => false
  | .bauddiv => false
  | .pollInfo => false
  | .asm => false
  | .sample01 => false
  | .sample23 => false
  | .sample45 => false
  | .rxbuf0 => false
  | .rxbuf1 => false
  | .rxbuf2 => false
  | .rxbuf3 => false

/-- RXBUFk = RXBUF[4k+3] ++ RXBUF[4k+2] ++ RXBUF[4k+1] ++ RXBUF[4k] (R45). -/
def rxWord (s : State) (k : Nat) : Word :=
  (rxByte s (4 * k + 3) ++ rxByte s (4 * k + 2) ++ rxByte s (4 * k + 1) ++ rxByte s (4 * k) : BitVec (8 + 8 + 8 + 8))

/-- CHc (R44). -/
def channel (s : State) (c : Nat) : Half := s.ch.getD c 0

/-- A SAMPLE register: the even channel c in bits [15:0], the odd channel c + 1 in bits [31:16] (R44). -/
def sampleWord (s : State) (c : Nat) : Word := (channel s (c + 1) ++ channel s c : BitVec (16 + 16))

/-- What a host read of a register returns; reserved bits read 0 (R31 to R45). -/
def readReg (r : HostReg) (s : State) : Word :=
  match r with
  | .cmd => s.cur
  | .status => statusWord s
  | .i2cDev => s.i2cDev.setWidth 32
  | .maddr => s.maddr.setWidth 32
  | .clkHz => s.clkHz
  | .baud => s.baud
  | .bauddiv => (0#10 ++ s.fbrd ++ s.ibrd : BitVec (10 + 6 + 16))
  | .uartLcr => s.uartLcr
  | .uartCr => s.uartCr
  | .pollCfg => (s.pollMax ++ s.pollMatch ++ s.pollMask : BitVec (16 + 8 + 8))
  | .pollTxn => s.pollTxn
  | .pollInfo => pollInfoWord s
  | .asm => s.asmv.signExtend 32
  | .sample01 => sampleWord s 0
  | .sample23 => sampleWord s 2
  | .sample45 => sampleWord s 4
  | .rxbuf0 => rxWord s 0
  | .rxbuf1 => rxWord s 1
  | .rxbuf2 => rxWord s 2
  | .rxbuf3 => rxWord s 3

/-- A host write with BUSY = 0 (R72): CMD accepts the word, an RW register stores its fields, an RO register is as it was. -/
def storeReg (r : HostReg) (v : Word) (s : State) : State :=
  match r with
  | .cmd => accept v s
  | .i2cDev => { s with i2cDev := v.extractLsb' 0 7 }
  | .maddr => { s with maddr := v.extractLsb' 0 16 }
  | .clkHz => { s with clkHz := v }
  | .baud => { s with baud := v }
  | .uartLcr => { s with uartLcr := v }
  | .uartCr => { s with uartCr := v }
  | .pollCfg => { s with pollMask := v.extractLsb' 0 8, pollMatch := v.extractLsb' 8 8, pollMax := v.extractLsb' 16 16 }
  | .pollTxn => { s with pollTxn := v }
  | .status => s
  | .bauddiv => s
  | .pollInfo => s
  | .asm => s
  | .sample01 => s
  | .sample23 => s
  | .sample45 => s
  | .rxbuf0 => s
  | .rxbuf1 => s
  | .rxbuf2 => s
  | .rxbuf3 => s

/-- A host write to a register: while BUSY = 1, one to CMD or an RW register is ignored and sets REJECT (R131). -/
def writeReg (r : HostReg) (v : Word) (s : State) : State :=
  if s.busy ∧ writable r then { s with reject := true } else storeReg r v s

/-- `HostRead(off)`: a reserved offset reads 0 (R73). -/
def readWindow (off : Nat) (s : State) : Word :=
  match regAt off with
  | some r => readReg r s
  | none => 0

/-- `HostWrite(off, v)`: a write to a reserved offset is ignored, even while BUSY = 1 (R73). -/
def writeWindow (off : Nat) (v : Word) (s : State) : State :=
  match regAt off with
  | some r => writeReg r v s
  | none => s

/-- One host access (R71, R72, R74): 32 bits, inside the window, at an offset that is a multiple of 4; any other is
refused. It is recorded with its value (R8, log 9). -/
def hostStep (a : HostAccess) (s : State) : Out :=
  let off := a.addr - s.params.blockBase
  if a.bytes ≠ 4 then .refused .hostWidth
  else if a.addr < s.params.blockBase ∨ Config.windowSize ≤ off then .refused .hostWindow
  else if off % 4 ≠ 0 then .refused .hostAlignment
  else
    match a.value with
    | none => .next (record (.hostRead off (readWindow off s)) s)
    | some v => .next (record (.hostWrite off v) (writeWindow off v s))

end Sys2Proof.Machine
end

