-- ==== Sys2Proof/Machine/Agents.lean ====
section
/-! DEFINITION. One step of each agent of R9, and whose step it is (R90). -/

namespace Sys2Proof.Machine

/-- The sequencer's turn (R132, R133): with BUSY = 1 it decodes CUR and takes one step of the command; with BUSY = 0 it
has no step, and the state stays (log 3). -/
def sequencerStep (s : State) : Out :=
  if s.busy then
    match decode s.cur with
    | .ok i => exec i s
    | .error _ => illegalCommand s
  else .next s

/-- The next agent's step: the first turn of the agenda, and the sequencer's when it is empty (R90, R294, log 2). -/
def takeTurn (s : State) : Out :=
  match s.agenda with
  | [] => sequencerStep s
  | .sequencer :: rest => sequencerStep { s with agenda := rest }
  | .host a :: rest => hostStep a { s with agenda := rest }
  | .reset :: rest => .next (resetEvent { s with agenda := rest })

/-- One step of the machine: parameter values that are not word-aligned are refused (R85). -/
def machineStep (s : State) : Out :=
  if s.params.aligned then takeTurn s else .refused .parameterAlignment

/-- The machine at the moment a host write has just put the word w into CMD (R130), and the sequencer's step is next
(log 10). -/
def issued (w : Word) (s : State) : State := { accept w s with agenda := [] }

end Sys2Proof.Machine
end

