-- ==== Sys2Proof/Machine/Step.lean ====
section
/-! DEFINITION. The step function, and how an instruction comes to be the next one the sequencer runs. -/

namespace Sys2Proof.Machine

/-- One step of the machine (R90). -/
def step (s : State) : Host.Outcome State Fault Refusal := machineStep s

/-- The state in which the word w has been accepted and the sequencer is next: the core fetches nothing (R322); a command
runs because the host writes it to CMD (R130, log 10). -/
def State.withFetchWord (s : State) (nbits w : Nat) : State := issued (BitVec.ofNat 32 (w % 2 ^ nbits)) s

end Sys2Proof.Machine
end

