-- ==== Sys2Proof/Machine/HostProgram.lean ====
section
/-! DEFINITION. The host-program notation of R111: its lines, the expansions of its pseudo-instructions, and the host as
an agent that runs them. "It is not part of the core. The core sees only the host accesses it expands to": the step
function does not use this file. -/

namespace Sys2Proof.Machine

/-- A condition on a name: the field `x[hi:lo]` equals v (or, negated, differs from v). Names are numbers here. -/
structure HostCond where
  name : Nat
  hi : Nat
  lo : Nat
  value : Nat
  negated : Bool := false
deriving DecidableEq, Repr

/-- A line of a host program (R111). -/
inductive HostLine where
  /-- `SET REG, v`: `HostWrite(offset(REG), v)`; R111's worked programs also name a bare offset -/
  | set (off : Nat) (v : Word)
  /-- `GET REG -> x`: `x <- HostRead(offset(REG))` -/
  | get (off : Nat) (x : Nat)
  /-- `label:` -/
  | label (l : Nat)
  /-- `if <condition> goto l` -/
  | ifGoto (c : HostCond) (l : Nat)
  /-- `goto l` -/
  | jump (l : Nat)
  /-- the second half of EXPECT: the program is in error unless the condition holds -/
  | require (c : HostCond)
deriving DecidableEq, Repr

/-- `ISSUE cmd` is `SET CMD, word(cmd)` (R111). -/
def issueLines (w : Word) : List HostLine := [.set (regOffset .cmd) w]

/-- `WAIT`, with a fresh label w and a fresh name s (R111). -/
def waitLines (w s : Nat) : List HostLine :=
  [.label w, .get (regOffset .status) s, .ifGoto ⟨s, 0, 0, 1, false⟩ w]

/-- `EXEC cmd` is `ISSUE cmd` then `WAIT` (R111). -/
def execLines (cmd : Word) (w s : Nat) : List HostLine := issueLines cmd ++ waitLines w s

/-- `EXPECT r`: read STATUS, and be in error unless DONE = 1 and RESULT = r (R111). -/
def expectLines (r s : Nat) : List HostLine :=
  [.get (regOffset .status) s, .require ⟨s, 1, 1, 1, false⟩, .require ⟨s, 11, 8, r, false⟩]

/-- A host running a program: its lines, its place in them, the values of its names, and whether an EXPECT failed. -/
structure HostRun where
  lines : List HostLine
  place : Nat := 0
  names : List (Nat × Word) := []
  inError : Bool := false
deriving DecidableEq, Repr

/-- The value of a name, 0 before its first GET. -/
def HostRun.valueOf (h : HostRun) (x : Nat) : Word := (h.names.lookup x).getD 0

/-- Whether a condition holds of the names. -/
def HostRun.holds (h : HostRun) (c : HostCond) : Bool :=
  (((h.valueOf c.name).extractLsb' c.lo (c.hi + 1 - c.lo)).toNat == c.value) != c.negated

/-- The place of a label, or the program's end. -/
def HostRun.target (h : HostRun) (l : Nat) : Nat := h.lines.findIdx (· == .label l)

/-- The host's next line: a SET or a GET is one access of the core; the others are the host's own control flow. -/
def hostLineStep (h : HostRun) (s : State) : HostRun × Out :=
  match h.lines[h.place]? with
  | none => (h, .next s)
  | some (.set off v) =>
    ({ h with place := h.place + 1 }, hostStep ⟨s.params.blockBase + off, 4, some v⟩ s)
  | some (.get off x) =>
    ({ h with place := h.place + 1, names := (x, readWindow off s) :: h.names },
      hostStep ⟨s.params.blockBase + off, 4, none⟩ s)
  | some (.label _) => ({ h with place := h.place + 1 }, .next s)
  | some (.ifGoto c l) => ({ h with place := if h.holds c then h.target l else h.place + 1 }, .next s)
  | some (.jump l) => ({ h with place := h.target l }, .next s)
  | some (.require c) => ({ h with place := h.place + 1, inError := h.inError || !h.holds c }, .next s)

/-- A run under a schedule (R90): true for a line of the host, false for a turn of the sequencer. -/
def runSchedule : List Bool → HostRun → State → HostRun × Out
  | [], h, s => (h, .next s)
  | b :: rest, h, s =>
    match if b then hostLineStep h s else (h, sequencerStep s) with
    | (h', .next t) => runSchedule rest h' t
    | (h', out) => (h', out)

/-- "A run of a host program ends when the host program has executed its last line and the core is quiescent" (R139). -/
def runEnded (h : HostRun) (s : State) : Bool := h.lines.length ≤ h.place && quiescent s

end Sys2Proof.Machine
end

