-- ==== Sys2Proof/Safety.lean ====
section
/-! DEFINITION. What counts as a safe run: framed histories (R181, R200, R93), states a run can reach (R52, R267), the
result codes a command may end with (R292), and the terms the statements are written in. -/

namespace Sys2Proof.Machine

/-- One event against the lines (CS asserted, I2C bus held): `none` where a framing rule forbids it. A chip-select frame or
an I2C frame opens only when both buses are free (R93, R200, R181), transfers and bytes only stand inside their frame, a
UART access only outside both. A reset leaves both lines inactive (R320). -/
def frameEvent (lines : Option (Bool × Bool)) (e : Event) : Option (Bool × Bool) :=
  match lines, e with
  | none, _ => none
  | some _, .reset => some (false, false)
  | some l, .hostRead _ _ => some l
  | some l, .hostWrite _ _ => some l
  | some (false, false), .csAssert => some (true, false)
  | some (true, false), .spiXfer _ _ => some (true, false)
  | some (true, false), .csDeassert => some (false, false)
  | some (false, false), .i2cStart => some (false, true)
  | some (false, true), .i2cRstart => some (false, true)
  | some (false, true), .i2cWrite _ _ => some (false, true)
  | some (false, true), .i2cRead _ _ => some (false, true)
  | some (false, true), .i2cStop => some (false, false)
  | some (false, false), .memRead _ _ => some (false, false)
  | some (false, false), .memWrite _ _ => some (false, false)
  | some _, _ => none

/-- The lines after a whole history, `none` if it is not well framed. -/
def framing (h : List Event) : Option (Bool × Bool) := h.foldl frameEvent (some (false, false))

/-- The SPI chip-select is asserted at a position (R200). -/
def csAt : Pos → Bool
  | .spiInstr => true
  | .spiAddrHigh => true
  | .spiAddrLow => true
  | .spiData => true
  | .spiByte _ => true
  | .spiRelease => true
  | _ => false

/-- The I2C bus is held at a position (R181). -/
def heldAt : Pos → Bool
  | .i2cAddress => true
  | .i2cRegister _ => true
  | .i2cData _ => true
  | .i2cWritten _ => true
  | .i2cRestart _ => true
  | .i2cReadAddress => true
  | .i2cReadFirst _ => true
  | .i2cByte _ => true
  | _ => false

/-- The position a phase holds, if it stands inside a transaction. -/
def posOf : Phase → Option Pos
  | .txn p => some p
  | .pollAttempt p => some p
  | _ => none

/-- The positions a framed command can stand at (R52), with the bounds its checks and loops give. `nf` is NACK_IS_FAULT:
a transaction ends with BUS_FAULT only where it is true (R292). -/
def posFits (nf : Bool) (i : Instr) (p : Pos) : Bool :=
  match i with
  | .uartInit =>
    match p with
    | .uartFbrd _ => true
    | .uartLcr => true
    | .uartCr => true
    | .ended r => r == .ok
    | _ => false
  | .uartWrite _ =>
    match p with
    | .uartTx _ => true
    | .ended r => r == .ok
    | _ => false
  | .uartRead len =>
    lenValid len &&
      match p with
      | .uartRx j _ => j < len
      | .uartNext j => 1 ≤ j && j ≤ len
      | .ended r => r == .ok
      | _ => false
  | .i2cWrite _ _ =>
    match p with
    | .i2cAddress => true
    | .i2cRegister _ => true
    | .i2cData _ => true
    | .i2cWritten _ => true
    | .ended r => r == .ok || (nf && r == .busFault)
    | _ => false
  | .i2cRead _ len =>
    lenValid len &&
      match p with
      | .i2cAddress => true
      | .i2cRegister _ => true
      | .i2cRestart _ => true
      | .i2cReadAddress => true
      | .i2cReadFirst _ => true
      | .i2cByte j => 1 ≤ j && j ≤ len
      | .ended r => r == .ok || (nf && r == .busFault)
      | _ => false
  | .spiWrite _ _ =>
    match p with
    | .spiInstr => true
    | .spiAddrHigh => true
    | .spiAddrLow => true
    | .spiData => true
    | .spiRelease => true
    | .ended r => r == .ok
    | _ => false
  | .spiRead _ len =>
    lenValid len &&
      match p with
      | .spiInstr => true
      | .spiAddrHigh => true
      | .spiAddrLow => true
      | .spiByte j => j ≤ len
      | .ended r => r == .ok
      | _ => false
  | .spiCmd _ =>
    match p with
    | .spiInstr => true
    | .spiRelease => true
    | .ended r => r == .ok
    | _ => false
  | .spiCmdr _ len =>
    lenValid len &&
      match p with
      | .spiInstr => true
      | .spiByte j => j ≤ len
      | .ended r => r == .ok
      | _ => false
  | _ => false

/-- The running command is i. -/
def runs (s : State) (i : Instr) : Bool := decode s.cur == .ok i

/-- The phase is one the command in CUR can stand at, and BUSY says whether a command runs (R52, R130, R134). -/
def phaseFits (s : State) : Bool :=
  match s.phase with
  | .idle => !s.busy
  | .start => s.busy
  | .txn p =>
    s.busy &&
      match decode s.cur with
      | .ok i => posFits s.params.nackIsFault i p
      | .error _ => false
  | .pollTest => s.busy && runs s .pollRun && txnOk s
  | .pollAttempt p =>
    s.busy && (runs s .pollRun || runs s .pollStep) && s.pollState == .idle && s.pollAttempts < s.pollMax &&
      match statusTxn s with
      | some i => posFits s.params.nackIsFault i p
      | none => false
  | .pollEnd => s.busy && runs s .pollStep

/-- The lines stand as the position says (R181, R200): CS and HELD are true exactly inside their frames. -/
def linesFit (s : State) : Bool :=
  match posOf s.phase with
  | some p => s.cs == csAt p && s.held == heldAt p
  | none => !s.cs && !s.held

/-- The invariants of POLL_INFO (R267): Evaluate, Ready, Retry and Faulted stand only after an attempt, and Faulted only
with NACK_IS_FAULT (R292). -/
def pollFits (s : State) : Bool :=
  match s.pollState with
  | .idle => true
  | .evaluate => 1 ≤ s.pollAttempts.toNat
  | .ready => 1 ≤ s.pollAttempts.toNat
  | .retry => 1 ≤ s.pollAttempts.toNat
  | .timeout => true
  | .faulted => 1 ≤ s.pollAttempts.toNat && s.params.nackIsFault

/-- The states a run can reach keep this: the phase fits the command, the lines fit the phase, the poll registers keep
R267, and the history is well framed and ends with the lines as they stand. -/
def consistent (s : State) : Bool :=
  phaseFits s && linesFit s && pollFits s && framing s.history == some (s.cs, s.held)

/-- Codes each command can produce (R292). -/
def codes : Instr → List Result
  | .nop => [.ok]
  | .baudCalc => [.ok, .invalidConfig]
  | .uartInit => [.ok, .invalidConfig]
  | .uartWrite _ => [.ok]
  | .uartRead _ => [.ok, .invalidLength]
  | .i2cWrite _ _ => [.ok, .busFault, .invalidConfig]
  | .i2cRead _ _ => [.ok, .invalidLength, .busFault, .invalidConfig]
  | .spiWrite _ _ => [.ok]
  | .spiRead _ _ => [.ok, .invalidLength]
  | .spiCmd _ => [.ok]
  | .spiCmdr _ _ => [.ok, .invalidLength]
  | .asm16 _ => [.ok, .invalidLength]
  | .asmSample => [.ok]
  | .pollInit => [.ok, .invalidConfig]
  | .pollStep => [.ok, .timeout, .busFault, .invalidConfig]
  | .pollRun => [.ok, .timeout, .busFault, .invalidConfig]

/-- The command i has just been accepted and the other agents are silent: only the sequencer steps from here. -/
def begins (i : Instr) (s : State) : Bool :=
  s.params.aligned && s.agenda.isEmpty && s.busy && s.phase == .start && decode s.cur == .ok i

/-- Every reply the state holds for a bus completes its primitive (the transports' half of R340's weak fairness). -/
def completes (b : Bus) (s : State) : Bool :=
  (repliesOf b s).all fun r =>
    match r with
    | .answer _ => true
    | .pending => false
    | .never => false

/-- n steps of the machine. -/
def run (n : Nat) (s : State) : Out := Host.Core.run Sys2Proof.core n s

/-- The event belongs to the sequencer: a primitive or a UART access (R14, R13). -/
def busEvent : Event → Bool
  | .hostRead _ _ => false
  | .hostWrite _ _ => false
  | .reset => false
  | _ => true

/-- The state after one primitive of bus b that is recorded as e and leaves a transaction at p: the reply is used up, and
nothing else changes (R80, R15). A primitive that changes more says so by an update of its own. -/
def afterEvent (b : Bus) (e : Event) (p : Pos) (s : State) : State :=
  { popReply b s with history := s.history ++ [e], phase := .txn p }

/-- The state after a completion step (R134). -/
def completed (r : Result) (s : State) : State := { s with result := r, busy := false, done := true, phase := .idle }

/-- The writable bits of a register of R131 (R34 to R40). -/
def fieldMask : HostReg → Word
  | .i2cDev => 0x0000007F
  | .maddr => 0x0000FFFF
  | _ => 0xFFFFFFFF

/-- The OP values whose row marks A8 used (R103). -/
def usesA8 : List (BitVec 5) := [0x05, 0x06, 0x07, 0x08, 0x09, 0x0A, 0x0B]

/-- The OP values whose row marks D8 used (R103). -/
def usesD8 : List (BitVec 5) := [0x03, 0x05, 0x07]

/-- The OP values whose row marks LEN used (R103). -/
def usesLen : List (BitVec 5) := [0x04, 0x06, 0x08, 0x0A]

/-- The bus of a status transaction (R108). The other commands are no status transactions; their arms are read by nothing. -/
def busOf (i : Instr) : Bus :=
  match i with
  | .i2cRead _ _ => .i2c
  | .spiRead _ _ => .spi
  | .spiCmdr _ _ => .spi
  | .uartRead _ => .uart
  | .i2cWrite _ _ => .i2c
  | .spiWrite _ _ => .spi
  | .spiCmd _ => .spi
  | .uartInit => .uart
  | .uartWrite _ => .uart
  | .nop => .uart
  | .baudCalc => .uart
  | .asm16 _ => .uart
  | .asmSample => .uart
  | .pollInit => .uart
  | .pollStep => .uart
  | .pollRun => .uart

/-- One attempt of a poll that ends OK (R251): the answers its primitives get, the events they leave, and the status byte. -/
structure Attempt where
  answers : List Answer
  events : List Event
  byte : Byte
deriving DecidableEq, Repr

/-- The attempt that a UART.READ status transaction makes of these answers: flag words with RX-empty = 1, one with
RX-empty = 0, and the data word (R165). -/
def uartAttempt (s : State) : List Answer → Option Attempt
  | [] => none
  | fr :: rest =>
    if fr.data.getLsbD s.params.frRxfeBit then
      (uartAttempt s rest).map fun x =>
        ⟨fr :: x.answers, .memRead (uartAddr s.params.uartFrOff s) fr.data :: x.events, x.byte⟩
    else
      match rest with
      | [d] =>
        some ⟨[fr, d], [.memRead (uartAddr s.params.uartFrOff s) fr.data, .memRead (uartAddr s.params.uartDrOff s) d.data],
          dataByte d.data⟩
      | _ => none

/-- The attempt that the status transaction i makes of these answers, `none` where they are not the answers of one attempt
that ends OK: a wrong number of them, or a NACK with NACK_IS_FAULT (R165, R182, R188, R208, R214, R251). -/
def attemptOf (s : State) (i : Instr) (as : List Answer) : Option Attempt :=
  match i, as with
  | .i2cRead reg _, [_, a, b, _, c, d, _] =>
    if s.params.nackIsFault ∧ (a.ack = .nack ∨ b.ack = .nack ∨ c.ack = .nack) then none
    else
      some ⟨as,
        [.i2cStart, .i2cWrite (addressWrite s.i2cDev) a.ack, .i2cWrite reg b.ack, .i2cRstart,
          .i2cWrite (addressRead s.i2cDev) c.ack, .i2cRead true (dataByte d.data), .i2cStop], dataByte d.data⟩
  | .spiRead instr _, [_, a, b, c, d, _] =>
    some ⟨as,
      [.csAssert, .spiXfer instr (dataByte a.data), .spiXfer (highByte s.maddr) (dataByte b.data),
        .spiXfer (lowByte s.maddr) (dataByte c.data), .spiXfer 0x00 (dataByte d.data), .csDeassert], dataByte d.data⟩
  | .spiCmdr instr _, [_, a, d, _] =>
    some ⟨as,
      [.csAssert, .spiXfer instr (dataByte a.data), .spiXfer 0x00 (dataByte d.data), .csDeassert], dataByte d.data⟩
  | .uartRead _, as => uartAttempt s as
  | _, _ => none

/-- The events of an attempt whose first NACK, with NACK_IS_FAULT, is the answer to written byte 1, 2 or 3 (R182, R189);
`none` where the answers are not those of such an attempt. -/
def nackedAttempt (s : State) (reg : Byte) (as : List Answer) : Option (List Event) :=
  if s.params.nackIsFault then
    match as with
    | [_, ⟨.nack, _⟩, _] => some [.i2cStart, .i2cWrite (addressWrite s.i2cDev) .nack, .i2cStop]
    | [_, ⟨.ack, _⟩, ⟨.nack, _⟩, _] =>
      some [.i2cStart, .i2cWrite (addressWrite s.i2cDev) .ack, .i2cWrite reg .nack, .i2cStop]
    | [_, ⟨.ack, _⟩, ⟨.ack, _⟩, _, ⟨.nack, _⟩, _] =>
      some [.i2cStart, .i2cWrite (addressWrite s.i2cDev) .ack, .i2cWrite reg .ack, .i2cRstart,
        .i2cWrite (addressRead s.i2cDev) .nack, .i2cStop]
    | _ => none
  else none

/-- The state after a poll has made these attempts, all OK, since it was armed: the replies used up, ATTEMPTS and LAST, the
byte of the last attempt in RXBUF[0], and the events (R251, R252). -/
def afterAttempts (b : Bus) (attempts : List Attempt) (rest : List Reply) (s : State) : State :=
  { setReplies b rest s with
    pollAttempts := BitVec.ofNat 16 attempts.length,
    pollLast := (attempts.getLast?.map (·.byte)).getD 0,
    rxbuf := (attempts.getLast?.map fun x => s.rxbuf.set 0 x.byte).getD s.rxbuf,
    history := s.history ++ attempts.flatMap (·.events) }

/-- `p + 3` summed over attempts of p primitives each (R262). -/
def attemptSteps (attempts : List Attempt) : Nat := (attempts.map fun x => x.answers.length + 3).sum

/-- How many of the first n steps from s take the poller of a running POLL.RUN from Retry to Idle (R266). -/
def retryEdges : Nat → State → Nat
  | 0, _ => 0
  | n + 1, s =>
    match step s with
    | .next t =>
      (if s.phase = .pollTest ∧ s.pollState = .retry ∧ t.pollState = .idle then 1 else 0) + retryEdges n t
    | .fault _ => 0
    | .refused _ => 0

/-- How many chip-select frames a history opens. -/
def framesOpened (h : List Event) : Nat := h.countP (· == .csAssert)

/-- A host access that reads the register at an offset (R13). -/
def hostReadAt (off : Nat) (s : State) : HostAccess := ⟨s.params.blockBase + off, 4, none⟩

/-- A host access that writes the register at an offset (R13). -/
def hostWriteAt (off : Nat) (v : Word) (s : State) : HostAccess := ⟨s.params.blockBase + off, 4, some v⟩

end Sys2Proof.Machine
end

