-- ==== Sys2Proof/Certificates/Slice0/Obligations.lean ====
section
/-! DEFINITION. The statements for the provers, from the numbered rules of spec/. -/

open Sys2Proof Sys2Proof.Machine

/-! ### The encoding (30_encoding.md) -/

/-- R103, R106, R110: for every well-formed command, decoding its word gives it back, with every operand. -/
def Obligations.DecodeOfEncodeIsTheCommand : Prop :=
  ∀ i : Instr, i.wellFormed = true → decode (encode i) = .ok i

/-- R104, R106 (and D5, "Strict decoding gives one meaning per word"): a word that decodes to a command is that command's
own word, and the command is well formed. -/
def Obligations.DecodedWordIsTheCommandsWord : Prop :=
  ∀ (w : Word) (i : Instr), decode w = .ok i → i.wellFormed = true ∧ encode i = w

/-- R105: a word is illegal exactly when its OP is 0x10 or more, a reserved field is nonzero, or a field its row does not
use is nonzero. -/
def Obligations.IllegalWordsAreThoseOfR105 : Prop :=
  ∀ w : Word, (∃ e, decode w = .error e) ↔
    0x10 ≤ (opField w).toNat ∨ rsv0Field w ≠ 0 ∨ rsv1Field w ≠ 0 ∨ (a8Field w ≠ 0 ∧ opField w ∉ usesA8) ∨
      (d8Field w ≠ 0 ∧ opField w ∉ usesD8) ∨ (lenField w ≠ 0 ∧ opField w ∉ usesLen)

/-- R103: "At most one row matches any word, because every mask covers OP." -/
def Obligations.AtMostOneRowMatchesAWord : Prop :=
  ∀ w : Word, (rows.filter fun r => w &&& r.mask == r.code).length ≤ 1

/-- 95_test_vectors.md V-D1, V-D4, V-D8, V-D10, V-D13, V-D15, V-D18: words written out from R101 decode to their commands,
and the word of V-D4 to none: some error is answered (the names of the errors are the model's, log 16). -/
def Obligations.WordsOfTheVectorsDecode : Prop :=
  decode 0x00000000 = .ok .nop ∧ (∃ e, decode 0x00000010 = .error e) ∧ decode 0x1F003B06 = .ok (.i2cRead 0x3B 31) ∧
    decode 0x00410003 = .ok (.uartWrite 0x41) ∧ decode 0x00FF0105 = .ok (.i2cWrite 0x01 0xFF) ∧
    decode 0x0000FF0B = .ok (.asm16 255) ∧ decode 0x10000308 = .ok (.spiRead 0x03 16)

/-- R110: the syntax table, and "An operand that does not fit its field is refused by the assembler." -/
def Obligations.AssemblerWritesTheWordsOfR110 : Prop :=
  (assemble "NOP" [] = some 0x00000000#32 ∧ assemble "BAUD.CALC" [] = some 0x00000001#32 ∧
    assemble "UART.INIT" [] = some 0x00000002#32 ∧ assemble "ASM.SAMPLE" [] = some 0x0000000C#32 ∧
    assemble "POLL.INIT" [] = some 0x0000000D#32 ∧ assemble "POLL.STEP" [] = some 0x0000000E#32 ∧
    assemble "POLL.RUN" [] = some 0x0000000F#32) ∧
  ∀ x y : Nat,
    assemble "UART.WRITE" [x] = (if x < 256 then some (BitVec.ofNat 32 x <<< 16 ||| 0x03#32) else none) ∧
    assemble "UART.READ" [x] = (if x < 32 then some (BitVec.ofNat 32 x <<< 24 ||| 0x04#32) else none) ∧
    assemble "I2C.WRITE" [x, y] = (if x < 256 ∧ y < 256 then
      some (BitVec.ofNat 32 y <<< 16 ||| BitVec.ofNat 32 x <<< 8 ||| 0x05#32) else none) ∧
    assemble "I2C.READ" [x, y] = (if x < 256 ∧ y < 32 then
      some (BitVec.ofNat 32 y <<< 24 ||| BitVec.ofNat 32 x <<< 8 ||| 0x06#32) else none) ∧
    assemble "SPI.WRITE" [x, y] = (if x < 256 ∧ y < 256 then
      some (BitVec.ofNat 32 y <<< 16 ||| BitVec.ofNat 32 x <<< 8 ||| 0x07#32) else none) ∧
    assemble "SPI.READ" [x, y] = (if x < 256 ∧ y < 32 then
      some (BitVec.ofNat 32 y <<< 24 ||| BitVec.ofNat 32 x <<< 8 ||| 0x08#32) else none) ∧
    assemble "SPI.CMD" [x] = (if x < 256 then some (BitVec.ofNat 32 x <<< 8 ||| 0x09#32) else none) ∧
    assemble "SPI.CMDR" [x, y] = (if x < 256 ∧ y < 32 then
      some (BitVec.ofNat 32 y <<< 24 ||| BitVec.ofNat 32 x <<< 8 ||| 0x0A#32) else none) ∧
    assemble "ASM16" [x] = (if x < 256 then some (BitVec.ofNat 32 x <<< 8 ||| 0x0B#32) else none) ∧
    assemble ".word" [x] = (if x < 2 ^ 32 then some (BitVec.ofNat 32 x) else none)

/-! ### The host port (10_state.md, 20_memory.md, 40_control.md) -/

/-- R71: a host access has a step exactly when it is 32 bits wide, inside the window and at a multiple of 4; any other is
refused, by a name of its own, and never faults. The order of the three refusals is the model's (log 8). -/
def Obligations.HostAccessesWithoutMeaningAreRefused : Prop :=
  ∀ (a : HostAccess) (s : State),
    ((∃ t, hostStep a s = .next t) ↔
      a.bytes = 4 ∧ s.params.blockBase ≤ a.addr ∧ a.addr < s.params.blockBase + 0x100 ∧
        (a.addr - s.params.blockBase) % 4 = 0) ∧
    ((∀ t, hostStep a s ≠ .next t) →
      hostStep a s = .refused .hostWidth ∨ hostStep a s = .refused .hostWindow ∨ hostStep a s = .refused .hostAlignment)

/-- R30, R72, R73: "A host read has no side effect, at any offset": the machine changes in nothing but the record of the read;
a read at a register's offset returns that register (its fields: WritesStoreFieldsOrAreIgnored,
StatusAndPollInfoHoldTheirFields, ResultRegistersReadTheirFields); a reserved offset reads 0 and ignores writes, even while BUSY = 1. That the history records a host access is the model's
choice (log 9). -/
def Obligations.HostReadsHaveNoSideEffect : Prop :=
  (∀ (r : HostReg) (s : State), readWindow (regOffset r) s = readReg r s ∧
    hostStep (hostReadAt (regOffset r) s) s =
      .next { s with history := s.history ++ [.hostRead (regOffset r) (readReg r s)] }) ∧
  ∀ (k : Nat) (s : State), k < 64 →
    hostStep (hostReadAt (4 * k) s) s =
      .next { s with history := s.history ++ [.hostRead (4 * k) (readWindow (4 * k) s)] } ∧
    (0x50 ≤ 4 * k → readWindow (4 * k) s = 0 ∧ ∀ v,
      hostStep (hostWriteAt (4 * k) v s) s = .next { s with history := s.history ++ [.hostWrite (4 * k) v] })

/-- R130: a host write of w to CMD while BUSY = 0 accepts w, whatever w is: CUR, BUSY, DONE, REJECT and the phase change in
one step; RESULT and every other register keep their values. (What the history records of a host access is left open here:
log 9.) -/
def Obligations.WriteToCmdAcceptsTheCommand : Prop :=
  ∀ (w : Word) (s : State), s.busy = false → ∃ h,
    hostStep (hostWriteAt 0x00 w s) s =
      .next { s with cur := w, busy := true, done := false, reject := false, phase := .start, history := h }

/-- R131: "While STATUS.BUSY = 1, a host write to CMD or to any RW register is ignored and sets STATUS.REJECT", and no other
state changes; a write to an RO register or a reserved offset leaves REJECT. "REJECT stays set until the next accepted
command": no sequencer step clears it, and a host access that clears it is the write to CMD that is accepted. (What the
history records of a host access is left open here: log 9.) -/
def Obligations.WritesWhileBusyOnlySetReject : Prop :=
  (∀ (r : HostReg) (v : Word) (s : State), s.busy = true → ∃ h,
    hostStep (hostWriteAt (regOffset r) v s) s =
      .next { s with
        reject := s.reject || (r ∈ [.cmd, .i2cDev, .maddr, .clkHz, .baud, .uartLcr, .uartCr, .pollCfg, .pollTxn]),
        history := h }) ∧
  (∀ (k : Nat) (v : Word) (s : State), 20 ≤ k → k < 64 →
    ∃ h, hostStep (hostWriteAt (4 * k) v s) s = .next { s with history := h }) ∧
  (∀ s t : State, sequencerStep s = .next t → t.reject = s.reject) ∧
  ∀ (a : HostAccess) (s t : State), hostStep a s = .next t → s.reject = true → t.reject = false →
    ∃ v, a = hostWriteAt 0x00 v s ∧ s.busy = false ∧ t.cur = v ∧ t.busy = true

/-- R31, R34 to R40: with BUSY = 0 a host write to an RW register stores its writable fields, which then read back, its
reserved bits read 0, no other register of the window changes, and nothing else of the machine does: the configuration
fields aside, the next state is the old one with the access recorded. A write to a read-only register is ignored, whatever
BUSY is, and does not set REJECT. A read returns the fields at their bits: DEV, ADDR, the whole words, and MASK, MATCH and MAX
of POLL_CFG. That the history records the access is the model's choice (log 9). -/
def Obligations.WritesStoreFieldsOrAreIgnored : Prop :=
  (∀ (r : HostReg) (v : Word) (s : State), s.busy = false →
    r ∈ [.i2cDev, .maddr, .clkHz, .baud, .uartLcr, .uartCr, .pollCfg, .pollTxn] →
    ∃ t, hostStep (hostWriteAt (regOffset r) v s) s = .next t ∧ readReg r t = v &&& fieldMask r ∧
      (∀ q, q ≠ r → readReg q t = readReg q s) ∧
      t = { s with
        i2cDev := t.i2cDev, maddr := t.maddr, clkHz := t.clkHz, baud := t.baud, uartLcr := t.uartLcr, uartCr := t.uartCr,
        pollMask := t.pollMask, pollMatch := t.pollMatch, pollMax := t.pollMax, pollTxn := t.pollTxn,
        history := s.history ++ [.hostWrite (regOffset r) v] }) ∧
  (∀ (r : HostReg) (v : Word) (s : State),
    r ∈ [.status, .bauddiv, .pollInfo, .asm, .sample01, .sample23, .sample45, .rxbuf0, .rxbuf1, .rxbuf2, .rxbuf3] →
    hostStep (hostWriteAt (regOffset r) v s) s = .next { s with history := s.history ++ [.hostWrite (regOffset r) v] }) ∧
  ∀ s : State,
    (readReg .i2cDev s).toNat = s.i2cDev.toNat ∧ (readReg .maddr s).toNat = s.maddr.toNat ∧ readReg .clkHz s = s.clkHz ∧
      readReg .baud s = s.baud ∧ readReg .uartLcr s = s.uartLcr ∧ readReg .uartCr s = s.uartCr ∧
      (readReg .pollCfg s).extractLsb' 0 8 = s.pollMask ∧ (readReg .pollCfg s).extractLsb' 8 8 = s.pollMatch ∧
      (readReg .pollCfg s).extractLsb' 16 16 = s.pollMax ∧ readReg .pollTxn s = s.pollTxn

/-- R30: twenty registers at the offsets 0x00 to 0x4C, four apart, in the order of the table; every other offset is
reserved. -/
def Obligations.TwentyRegistersInTheWindow : Prop :=
  windowRegs.map regOffset = (List.range 20).map (4 * ·) ∧ (∀ r, regAt (regOffset r) = some r) ∧
    ∀ off, (∃ r, regAt off = some r) ↔ off % 4 = 0 ∧ off < 0x50

/-- R32, R33, R41, R42, R48, R290: CMD reads CUR, the last accepted command word; the fields of STATUS and of POLL_INFO stand
at their bits, the reserved bits 0. -/
def Obligations.StatusAndPollInfoHoldTheirFields : Prop :=
  ∀ s : State, let w := readReg .status s
    let v := readReg .pollInfo s
    readReg .cmd s = s.cur ∧ w.getLsbD 0 = s.busy ∧ w.getLsbD 1 = s.done ∧ w.getLsbD 2 = s.reject ∧ w.getLsbD 3 = s.cs ∧ w.getLsbD 4 = s.held ∧
      w.extractLsb' 5 3 = 0 ∧ w.extractLsb' 12 20 = 0 ∧
      (w.extractLsb' 8 4).toNat =
        (match s.result with
        | .ok => 0
        | .timeout => 1
        | .invalidLength => 2
        | .busFault => 3
        | .invalidConfig => 4
        | .illegalCommand => 5) ∧
      v.extractLsb' 0 8 = s.pollLast ∧ v.extractLsb' 11 5 = 0 ∧ v.extractLsb' 16 16 = s.pollAttempts ∧
      (v.extractLsb' 8 3).toNat =
        (match s.pollState with
        | .idle => 0
        | .evaluate => 1
        | .ready => 2
        | .retry => 3
        | .timeout => 4
        | .faulted => 5)

/-- R37, R43, R44, R45: BAUDDIV, ASM, SAMPLE and RXBUF read what they hold: the divisor fields, ASMV sign-extended as an
integer, the even channel low and the odd channel high, byte i of RXBUF in word i div 4 at bits
[8*(i mod 4)+7 : 8*(i mod 4)]. -/
def Obligations.ResultRegistersReadTheirFields : Prop :=
  ∀ s : State,
    (readReg .bauddiv s).extractLsb' 0 16 = s.ibrd ∧ (readReg .bauddiv s).extractLsb' 16 6 = s.fbrd ∧
      (readReg .bauddiv s).extractLsb' 22 10 = 0 ∧ (readReg .asm s).toInt = s.asmv.toInt ∧
      (readReg .sample01 s).extractLsb' 0 16 = s.ch[0] ∧ (readReg .sample01 s).extractLsb' 16 16 = s.ch[1] ∧
      (readReg .sample23 s).extractLsb' 0 16 = s.ch[2] ∧ (readReg .sample23 s).extractLsb' 16 16 = s.ch[3] ∧
      (readReg .sample45 s).extractLsb' 0 16 = s.ch[4] ∧ (readReg .sample45 s).extractLsb' 16 16 = s.ch[5] ∧
      ∀ i, i < 16 → (readWindow (0x40 + 4 * (i / 4)) s).extractLsb' (8 * (i % 4)) 8 = rxByte s i

/-! ### Reset and the step (40_control.md, 70_reset_and_hazards.md) -/

/-- R55: after reset every register of the window reads 0, the lines are inactive, no command runs, and the parameters
that R7 fixes stand at their values. -/
def Obligations.ResetLeavesTheValuesOfR55 : Prop :=
  (∀ off, readWindow off State.reset = 0) ∧ State.reset.phase = .idle ∧ State.reset.busy = false ∧
    State.reset.done = false ∧ State.reset.reject = false ∧ State.reset.cs = false ∧ State.reset.held = false ∧
    State.reset.result = .ok ∧ State.reset.pollState = .idle ∧ State.reset.asmv = 0 ∧
    State.reset.ch = Vector.replicate 6 0 ∧ State.reset.rxbuf = Vector.replicate 16 0 ∧
    State.reset.params.nackIsFault = true

/-- R320: the reset event, when it comes next, sets every piece of state to its value of R55, abandons the running command,
emits no primitive and records RESET. The parameters and the other agents' inputs stay: the model's choice (log 15). -/
def Obligations.ResetEventRestoresEverything : Prop :=
  ∀ (s : State) (rest : List Turn), s.params.aligned = true → s.agenda = .reset :: rest →
    ∃ t, step s = .next t ∧ (∀ off, readWindow off t = 0) ∧ t.phase = .idle ∧ t.busy = false ∧ t.done = false ∧
      t.cs = false ∧ t.held = false ∧ t.history = s.history ++ [.reset] ∧
      t = { State.reset with
        params := s.params, agenda := rest, i2cReplies := s.i2cReplies, spiReplies := s.spiReplies,
        uartReplies := s.uartReplies, drawn := s.drawn, history := s.history ++ [.reset] }

/-- R9, R90, R132, R133: whose step a step of the machine is. When BUSY = 1 and CUR decodes to i, a sequencer's step is exec
of i: at the state itself when no other agent's turn is listed, and after taking the turn when the sequencer's is the first.
When a host access is the first turn, the step is that access. That the turns stand in a list is the model's choice
(log 2). -/
def Obligations.StepRunsTheDecodedCommand : Prop :=
  (∀ (i : Instr) (s : State) (rest : List Turn), s.params.aligned = true → s.busy = true → decode s.cur = .ok i →
    (s.agenda = [] → step s = exec i s) ∧
    (s.agenda = .sequencer :: rest → step s = exec i { s with agenda := rest })) ∧
  ∀ (a : HostAccess) (s : State) (rest : List Turn), s.params.aligned = true → s.agenda = .host a :: rest →
    step s = hostStep a { s with agenda := rest }

/-- R132: "When BUSY = 0 the sequencer has no step." That the machine's step then answers the same state is the model's
choice (log 3). -/
def Obligations.SequencerHasNoStepWhenQuiescent : Prop :=
  ∀ (s : State) (rest : List Turn), s.params.aligned = true → s.busy = false →
    (s.agenda = [] → step s = .next s) ∧ (s.agenda = .sequencer :: rest → step s = .next { s with agenda := rest })

/-- R105, R133: an illegal word ends with ILLEGAL_COMMAND in its first step: no primitive, no register but STATUS. -/
def Obligations.IllegalCommandCompletesInOneStep : Prop :=
  ∀ (s : State) (e : Illegal), s.params.aligned = true → s.agenda = [] → s.busy = true → s.phase = .start →
    decode s.cur = .error e → step s = .next { s with result := .illegalCommand, busy := false, done := true, phase := .idle }

/-- R81: a primitive whose transport never completes it leaves the sequencer stuck, for as many steps as one likes: no
fault, no end of run, no change. The first clause is about every command and every position: the sequencer's next marker is
a primitive of bus b exactly where it would use up an answer of that bus, and then a transport that never completes leaves
the machine as it is, and one that does not complete on this turn leaves all but its own list of replies. The other clauses
name three first primitives. That the machine's step then answers the same state is the model's choice (log 5). -/
def Obligations.TransportThatNeverCompletesLeavesTheSequencerStuck : Prop :=
  (∀ (b : Bus) (s u : State) (a : Answer) (rest : List Reply), s.params.aligned = true → s.agenda = [] →
    step (setReplies b [.answer a] s) = .next u → repliesOf b u = [] →
    (repliesOf b s = .never :: rest → ∀ n, run n s = .next s) ∧
    (repliesOf b s = .pending :: rest → step s = .next (setReplies b rest s))) ∧
  ∀ (s : State) (n : Nat) (instr d8 reg : Byte),
    (begins (.spiWrite instr d8) s = true → s.spiReplies.head? = some .never → run n s = .next s) ∧
    (begins (.i2cWrite reg d8) s = true → s.i2cDev ≠ 0 → s.i2cReplies.head? = some .never → run n s = .next s) ∧
    (begins (.uartWrite d8) s = true → s.uartReplies.head? = some .never → run n s = .next s)

/-! ### NOP, the assembler and the divisor (40_control.md, 44_assemble.md, 41_uart_baud.md) -/

/-- R138: NOP is the word 0x00000000 and completes with OK in one step, nothing else changed; every other word with OP = 0 is
illegal and ends with ILLEGAL_COMMAND in its first step. -/
def Obligations.NopCompletes : Prop :=
  (∀ s : State, s.phase = .start →
    exec .nop s = .next { s with result := .ok, busy := false, done := true, phase := .idle }) ∧
  decode 0x00000000 = .ok .nop ∧
  ∀ s : State, opField s.cur = 0 → s.cur ≠ 0 → s.busy = true → s.phase = .start →
    (∃ e, decode s.cur = .error e) ∧ sequencerStep s = .next (completed .illegalCommand s)

/-- R150: BAUD.CALC writes BAUDDIV and completes OK, or completes INVALID_CONFIG with BAUDDIV unchanged. -/
def Obligations.BaudCalcWritesTheDivisor : Prop :=
  ∀ s : State, s.phase = .start →
    let clk := s.clkHz.toNat
    let baud := s.baud.toNat
    let n := (8 * clk + baud) / (2 * baud)
    (baud ≠ 0 → 64 ≤ n → n ≤ 4194240 →
      exec .baudCalc s = .next { completed .ok s with ibrd := BitVec.ofNat 16 (n / 64), fbrd := BitVec.ofNat 6 (n % 64) }) ∧
    ((baud = 0 ∨ n < 64 ∨ 4194240 < n) → exec .baudCalc s = .next (completed .invalidConfig s))

/-- R151, R152: the divisor function on unbounded integers; (I, F) is valid exactly when "1 <= I and I <= 65535 and not
(I = 65535 and F != 0)", which for I = N div 64 and F = N mod 64 is "64 <= N <= 4,194,240". -/
def Obligations.DivisorIsValidFrom64To4194240 : Prop :=
  (∀ clk baud : Nat,
    divisor clk baud =
      if baud = 0 then none
      else if 64 ≤ (8 * clk + baud) / (2 * baud) ∧ (8 * clk + baud) / (2 * baud) ≤ 4194240 then
        some ((8 * clk + baud) / (2 * baud) / 64, (8 * clk + baud) / (2 * baud) % 64)
      else none) ∧
  (∀ n : Nat, divisorValid (n / 64) (n % 64) = true ↔ 64 ≤ n ∧ n ≤ 4194240) ∧
  ∀ i f : Nat, divisorValid i f = true ↔ 1 ≤ i ∧ i ≤ 65535 ∧ ¬ (i = 65535 ∧ f ≠ 0)

/-- R151, R153: a valid divisor I + F/64 is 4*clk/baud rounded to the nearest 1/64: |N - 4*clk/baud| <= 1/2, so twice the
denominator bounds the error, and F fits its 6 bits; N grows with the clock and falls with the baud rate. -/
def Obligations.DivisorIsNearestAndMonotone : Prop :=
  (∀ clk baud i f : Nat, divisor clk baud = some (i, f) →
    f < 64 ∧ i < 65536 ∧ (2 * baud * (64 * i + f) : Int) - 8 * clk ≤ baud ∧
      (8 * clk : Int) - 2 * baud * (64 * i + f) ≤ baud) ∧
  (∀ clk clk' baud : Nat, 0 < baud → clk ≤ clk' → divisorUnits clk baud ≤ divisorUnits clk' baud) ∧
  (∀ clk baud baud' : Nat, 0 < baud → baud ≤ baud' → divisorUnits clk baud' ≤ divisorUnits clk baud)

/-- R230: ASM16 assembles the pair at k, the high byte first, and refuses an index above 14 with ASMV unchanged. -/
def Obligations.Asm16AssemblesThePair : Prop :=
  ∀ (k : Nat) (s : State), s.phase = .start →
    (k ≤ 14 → exec (.asm16 k) s =
      .next { completed .ok s with asmv := (rxByte s k).setWidth 16 <<< 8 ||| (rxByte s (k + 1)).setWidth 16 }) ∧
    (15 ≤ k → exec (.asm16 k) s = .next (completed .invalidLength s))

/-- R231: raw16 = 256*h + l; signed16 is raw16 - 65536 exactly when bit 7 of the high byte is set; the pair is determined
by the pattern; signed16 stays in -32768 .. 32767. -/
def Obligations.SampleReconstructionIsExact : Prop :=
  ∀ h l : Byte,
    (raw16 h l).toNat = 256 * h.toNat + l.toNat ∧
    signed16 (raw16 h l) =
      (if h.getLsbD 7 then (256 * h.toNat + l.toNat : Int) - 65536 else (256 * h.toNat + l.toNat : Int)) ∧
    (∀ h' l' : Byte, raw16 h l = raw16 h' l' → h = h' ∧ l = l') ∧ (∀ v : Half, ∃ h' l' : Byte, raw16 h' l' = v) ∧
    -32768 ≤ signed16 (raw16 h l) ∧ signed16 (raw16 h l) ≤ 32767 ∧ (signed16 (raw16 h l) < 0 ↔ h.getLsbD 7 = true)

/-- R235, R236: ASM.SAMPLE writes all six channels in one step, from the bytes of the channel map, and nothing else. -/
def Obligations.AsmSampleAssemblesSixChannels : Prop :=
  ∀ s : State, s.phase = .start → ∃ t, exec .asmSample s = .next t ∧
    t = { completed .ok s with ch := t.ch } ∧
    t.ch[0] = raw16 (rxByte s 0) (rxByte s 1) ∧ t.ch[1] = raw16 (rxByte s 2) (rxByte s 3) ∧
    t.ch[2] = raw16 (rxByte s 4) (rxByte s 5) ∧ t.ch[3] = raw16 (rxByte s 8) (rxByte s 9) ∧
    t.ch[4] = raw16 (rxByte s 10) (rxByte s 11) ∧ t.ch[5] = raw16 (rxByte s 12) (rxByte s 13)

/-! ### The UART commands (41_uart_baud.md) -/

/-- R155: UART.INIT writes IBRD, FBRD, the line control and the control register, in that order, one per step, BAUDDIV in
the step of the first write; an invalid divisor completes INVALID_CONFIG with no UART access. -/
def Obligations.UartInitProgramsTheUart : Prop :=
  (∀ s : State, s.phase = .start → divisor s.clkHz.toNat s.baud.toNat = none →
    exec .uartInit s = .next (completed .invalidConfig s)) ∧
  (∀ (s : State) (a : Answer) (i f : Nat), s.phase = .start → divisor s.clkHz.toNat s.baud.toNat = some (i, f) →
    nextReply .uart s = .answer a →
    exec .uartInit s = .next
      { afterEvent .uart (.memWrite (uartAddr s.params.uartIbrdOff s) (BitVec.ofNat 32 i)) (.uartFbrd (BitVec.ofNat 6 f)) s
        with ibrd := BitVec.ofNat 16 i, fbrd := BitVec.ofNat 6 f }) ∧
  (∀ (s : State) (a : Answer), nextReply .uart s = .answer a →
    (∀ f : BitVec 6, s.phase = .txn (.uartFbrd f) →
      exec .uartInit s = .next
        (afterEvent .uart (.memWrite (uartAddr s.params.uartFbrdOff s) (BitVec.ofNat 32 f.toNat)) .uartLcr s)) ∧
    (s.phase = .txn .uartLcr →
      exec .uartInit s = .next
        (afterEvent .uart (.memWrite (uartAddr s.params.uartLcrOff s) s.uartLcr) .uartCr s)) ∧
    (s.phase = .txn .uartCr →
      exec .uartInit s = .next
        (afterEvent .uart (.memWrite (uartAddr s.params.uartCrOff s) s.uartCr) (.ended .ok) s))) ∧
  ∀ s : State, s.phase = .txn (.ended .ok) → exec .uartInit s = .next (completed .ok s)

/-- R155: a whole UART.INIT: five steps, four UART writes in order, BAUDDIV programmed, RESULT OK, every other register
unchanged. -/
def Obligations.UartInitRunsInFiveSteps : Prop :=
  ∀ (s : State) (i f : Nat) (a b c d : Answer) (rest : List Reply), begins .uartInit s = true →
    divisor s.clkHz.toNat s.baud.toNat = some (i, f) →
    s.uartReplies = [.answer a, .answer b, .answer c, .answer d] ++ rest →
    run 5 s = .next { completed .ok s with
      ibrd := BitVec.ofNat 16 i, fbrd := BitVec.ofNat 6 f, uartReplies := rest,
      history := s.history ++
        [.memWrite (uartAddr s.params.uartIbrdOff s) (BitVec.ofNat 32 i),
         .memWrite (uartAddr s.params.uartFbrdOff s) (BitVec.ofNat 32 f),
         .memWrite (uartAddr s.params.uartLcrOff s) s.uartLcr, .memWrite (uartAddr s.params.uartCrOff s) s.uartCr] }

/-- R160: UART.WRITE reads the flags, reads them again while TX-full is 1, then writes the byte zero-extended to the data
register, then completes OK. -/
def Obligations.UartWriteWaitsThenWrites : Prop :=
  (∀ (d8 : Byte) (s : State) (a : Answer), nextReply .uart s = .answer a →
    (s.phase = .start → exec (.uartWrite d8) s = .next
      (afterEvent .uart (.memRead (uartAddr s.params.uartFrOff s) a.data) (.uartTx a.data) s)) ∧
    (∀ fr : Word, s.phase = .txn (.uartTx fr) →
      exec (.uartWrite d8) s = .next
        (if fr.getLsbD s.params.frTxffBit then
          afterEvent .uart (.memRead (uartAddr s.params.uartFrOff s) a.data) (.uartTx a.data) s
        else afterEvent .uart (.memWrite (uartAddr s.params.uartDrOff s) (BitVec.ofNat 32 d8.toNat)) (.ended .ok) s))) ∧
  ∀ (d8 : Byte) (s : State), s.phase = .txn (.ended .ok) → exec (.uartWrite d8) s = .next (completed .ok s)

/-- R160: "Steps: k + 2, where k ≥ 1 is the number of flag reads": a whole UART.WRITE whose UART shows TX-full on
`full.length` flag reads and then clears it. -/
def Obligations.UartWriteTakesFlagReadsPlusTwoSteps : Prop :=
  ∀ (d8 : Byte) (s : State) (full : List Answer) (clear w : Answer) (rest : List Reply),
    begins (.uartWrite d8) s = true → (∀ a ∈ full, a.data.getLsbD s.params.frTxffBit = true) →
    clear.data.getLsbD s.params.frTxffBit = false →
    s.uartReplies = full.map .answer ++ [.answer clear, .answer w] ++ rest →
    run (full.length + 1 + 2) s = .next { completed .ok s with
      uartReplies := rest,
      history := s.history ++ (full ++ [clear]).map (fun a => .memRead (uartAddr s.params.uartFrOff s) a.data) ++
        [.memWrite (uartAddr s.params.uartDrOff s) (BitVec.ofNat 32 d8.toNat)] }

/-- R160, R344: while TX-full stays 1 the command reads the flags without end: BUSY stays 1, one flag read a step. -/
def Obligations.UartWriteHangsWhileTheUartIsFull : Prop :=
  ∀ (d8 : Byte) (s : State) (full : List Answer) (rest : List Reply), begins (.uartWrite d8) s = true →
    (∀ a ∈ full, a.data.getLsbD s.params.frTxffBit = true) → s.uartReplies = full.map .answer ++ rest →
    ∀ n, n ≤ full.length → ∃ t, run n s = .next t ∧ t.busy = true ∧
      t.history = s.history ++ (full.take n).map (fun a => .memRead (uartAddr s.params.uartFrOff s) a.data)

/-- R165: UART.READ checks LEN first; before each byte it reads the flags until RX-empty is 0; it then reads the data
register once and stores bits [7:0]; after the last byte it completes OK. -/
def Obligations.UartReadReceivesBytes : Prop :=
  (∀ (len : Nat) (s : State), s.phase = .start → (len < 1 ∨ 16 < len) →
    exec (.uartRead len) s = .next (completed .invalidLength s)) ∧
  (∀ (len : Nat) (s : State) (a : Answer), nextReply .uart s = .answer a →
    (s.phase = .start → 1 ≤ len → len ≤ 16 → exec (.uartRead len) s = .next
      (afterEvent .uart (.memRead (uartAddr s.params.uartFrOff s) a.data) (.uartRx 0 a.data) s)) ∧
    (∀ (i : Nat) (fr : Word), s.phase = .txn (.uartRx i fr) →
      exec (.uartRead len) s = .next
        (if fr.getLsbD s.params.frRxfeBit then
          afterEvent .uart (.memRead (uartAddr s.params.uartFrOff s) a.data) (.uartRx i a.data) s
        else
          { afterEvent .uart (.memRead (uartAddr s.params.uartDrOff s) a.data) (.uartNext (i + 1)) s with
            rxbuf := s.rxbuf.setIfInBounds i (a.data.extractLsb' 0 8) })) ∧
    (∀ i : Nat, s.phase = .txn (.uartNext i) → i < len →
      exec (.uartRead len) s = .next
        (afterEvent .uart (.memRead (uartAddr s.params.uartFrOff s) a.data) (.uartRx i a.data) s))) ∧
  ∀ (len i : Nat) (s : State), s.phase = .txn (.uartNext i) → len ≤ i →
    exec (.uartRead len) s = .next (completed .ok s)

/-- R165: a whole UART.READ of LEN bytes. Before each byte the UART shows RX-empty = 1 on any number of flag reads (`.1`), then
RX-empty = 0 on one (`.2.1`), and answers the data word (`.2.2`): "the sum over bytes of (flag reads + 1), plus 1" steps, the
bytes in RXBUF[0..LEN-1] in receive order, every other byte and register unchanged. -/
def Obligations.UartReadFillsRxbuf : Prop :=
  ∀ (len : Nat) (s : State) (bytes : List (List Answer × Answer × Answer)) (rest : List Reply),
    begins (.uartRead len) s = true → 1 ≤ len → len ≤ 16 → bytes.length = len →
    (∀ p ∈ bytes, (∀ a ∈ p.1, a.data.getLsbD s.params.frRxfeBit = true) ∧ p.2.1.data.getLsbD s.params.frRxfeBit = false) →
    s.uartReplies = (bytes.flatMap fun p => p.1 ++ [p.2.1, p.2.2]).map .answer ++ rest →
    ∃ t, run ((bytes.map fun p => (p.1.length + 1) + 1).sum + 1) s = .next t ∧
      t = { completed .ok s with
        uartReplies := rest, rxbuf := t.rxbuf,
        history := s.history ++ bytes.flatMap fun p =>
          (p.1 ++ [p.2.1]).map (fun a => .memRead (uartAddr s.params.uartFrOff s) a.data) ++
            [.memRead (uartAddr s.params.uartDrOff s) p.2.2.data] } ∧
      (∀ i p, bytes[i]? = some p → rxByte t i = p.2.2.data.extractLsb' 0 8) ∧ ∀ i, len ≤ i → rxByte t i = rxByte s i

/-! ### The I2C commands (42_i2c.md) -/

/-- R180, R182, R183, R185: the steps of I2C.WRITE: the address check; START; the three bytes, each acknowledge checked in
the next step; STOP; completion. A NACK with NACK_IS_FAULT sends STOP and ends BUS_FAULT. -/
def Obligations.I2cWriteRunsItsFrame : Prop :=
  (∀ (reg d8 : Byte) (s : State), s.phase = .start → s.i2cDev = 0 →
    exec (.i2cWrite reg d8) s = .next (completed .invalidConfig s)) ∧
  (∀ (reg d8 : Byte) (s : State) (x : Answer), nextReply .i2c s = .answer x →
    (s.phase = .start → s.i2cDev ≠ 0 → exec (.i2cWrite reg d8) s = .next
      { afterEvent .i2c .i2cStart .i2cAddress s with held := true }) ∧
    (s.phase = .txn .i2cAddress → exec (.i2cWrite reg d8) s = .next
      (afterEvent .i2c (.i2cWrite (BitVec.ofNat 8 (2 * s.i2cDev.toNat)) x.ack) (.i2cRegister x.ack) s)) ∧
    (∀ a, (s.params.nackIsFault = false ∨ a = .ack) →
      (s.phase = .txn (.i2cRegister a) → exec (.i2cWrite reg d8) s = .next
        (afterEvent .i2c (.i2cWrite reg x.ack) (.i2cData x.ack) s)) ∧
      (s.phase = .txn (.i2cData a) → exec (.i2cWrite reg d8) s = .next
        (afterEvent .i2c (.i2cWrite d8 x.ack) (.i2cWritten x.ack) s)) ∧
      (s.phase = .txn (.i2cWritten a) → exec (.i2cWrite reg d8) s = .next
        { afterEvent .i2c .i2cStop (.ended .ok) s with held := false })) ∧
    (s.params.nackIsFault = true →
      s.phase ∈ [.txn (.i2cRegister .nack), .txn (.i2cData .nack), .txn (.i2cWritten .nack)] →
      exec (.i2cWrite reg d8) s = .next { afterEvent .i2c .i2cStop (.ended .busFault) s with held := false })) ∧
  ∀ (reg d8 : Byte) (s : State) (r : Result), s.phase = .txn (.ended r) →
    exec (.i2cWrite reg d8) s = .next (completed r s)

/-- R180, R182, R183, R188: the steps of I2C.READ: the checks in their order; START; the write address and the register;
the repeated START; the read address; LEN bytes into RXBUF, `last` on the final one; STOP; completion. -/
def Obligations.I2cReadRunsItsFrame : Prop :=
  (∀ (reg : Byte) (len : Nat) (s : State), s.phase = .start →
    (s.i2cDev = 0 → exec (.i2cRead reg len) s = .next (completed .invalidConfig s)) ∧
    (s.i2cDev ≠ 0 → (len < 1 ∨ 16 < len) → exec (.i2cRead reg len) s = .next (completed .invalidLength s))) ∧
  (∀ (reg : Byte) (len : Nat) (s : State) (x : Answer), nextReply .i2c s = .answer x →
    (s.phase = .start → s.i2cDev ≠ 0 → 1 ≤ len → len ≤ 16 → exec (.i2cRead reg len) s = .next
      { afterEvent .i2c .i2cStart .i2cAddress s with held := true }) ∧
    (s.phase = .txn .i2cAddress → exec (.i2cRead reg len) s = .next
      (afterEvent .i2c (.i2cWrite (BitVec.ofNat 8 (2 * s.i2cDev.toNat)) x.ack) (.i2cRegister x.ack) s)) ∧
    (s.phase = .txn .i2cReadAddress → exec (.i2cRead reg len) s = .next
      (afterEvent .i2c (.i2cWrite (BitVec.ofNat 8 (2 * s.i2cDev.toNat + 1)) x.ack) (.i2cReadFirst x.ack) s)) ∧
    (∀ a, (s.params.nackIsFault = false ∨ a = .ack) →
      (s.phase = .txn (.i2cRegister a) → exec (.i2cRead reg len) s = .next
        (afterEvent .i2c (.i2cWrite reg x.ack) (.i2cRestart x.ack) s)) ∧
      (s.phase = .txn (.i2cRestart a) → exec (.i2cRead reg len) s = .next
        (afterEvent .i2c .i2cRstart .i2cReadAddress s)) ∧
      (s.phase = .txn (.i2cReadFirst a) → 1 ≤ len → exec (.i2cRead reg len) s = .next
        { afterEvent .i2c (.i2cRead (len == 1) (x.data.extractLsb' 0 8)) (.i2cByte 1) s with
          rxbuf := s.rxbuf.setIfInBounds 0 (x.data.extractLsb' 0 8) })) ∧
    (∀ i, s.phase = .txn (.i2cByte i) → exec (.i2cRead reg len) s = .next
      (if i < len then
        { afterEvent .i2c (.i2cRead (i + 1 == len) (x.data.extractLsb' 0 8)) (.i2cByte (i + 1)) s with
          rxbuf := s.rxbuf.setIfInBounds i (x.data.extractLsb' 0 8) }
      else { afterEvent .i2c .i2cStop (.ended .ok) s with held := false })) ∧
    (s.params.nackIsFault = true →
      s.phase ∈ [.txn (.i2cRegister .nack), .txn (.i2cRestart .nack), .txn (.i2cReadFirst .nack)] →
      exec (.i2cRead reg len) s = .next { afterEvent .i2c .i2cStop (.ended .busFault) s with held := false })) ∧
  ∀ (reg : Byte) (len : Nat) (s : State) (r : Result), s.phase = .txn (.ended r) →
    exec (.i2cRead reg len) s = .next (completed r s)

/-- R182, R185, R190: a whole I2C.WRITE. All acknowledged (or NACK_IS_FAULT false): 6 steps, START, three bytes, STOP, OK.
The first NACK on byte k = 1, 2 or 3 with NACK_IS_FAULT: k + 3 steps, START, k bytes, STOP, BUS_FAULT. The bus is released
and no other register changes. -/
def Obligations.I2cWriteEndsOkOrBusFault : Prop :=
  ∀ (reg d8 : Byte) (s : State) (st a b c sp : Answer) (rest : List Reply), begins (.i2cWrite reg d8) s = true →
    s.i2cDev ≠ 0 →
    let w : List Byte := [addressWrite s.i2cDev, reg, d8]
    ((s.params.nackIsFault = false ∨ (a.ack = .ack ∧ b.ack = .ack ∧ c.ack = .ack)) →
      s.i2cReplies = [st, a, b, c, sp].map .answer ++ rest →
      run 6 s = .next { completed .ok s with
        held := false, i2cReplies := rest,
        history := s.history ++ [.i2cStart] ++ List.zipWith .i2cWrite w [a.ack, b.ack, c.ack] ++ [.i2cStop] }) ∧
    ∀ acks : List Answer, s.params.nackIsFault = true → acks.length < 3 → (∀ y ∈ acks, y.ack = .ack) → c.ack = .nack →
      s.i2cReplies = (st :: acks ++ [c, sp]).map .answer ++ rest →
      run (acks.length + 1 + 3) s = .next { completed .busFault s with
        held := false, i2cReplies := rest,
        history := s.history ++ [.i2cStart] ++ List.zipWith .i2cWrite w ((acks ++ [c]).map Answer.ack) ++ [.i2cStop] }

/-- R182, R188, R189, R190: a whole I2C.READ of LEN bytes. All acknowledged (or NACK_IS_FAULT false): LEN + 7 steps; START, the
write address, the register, one repeated START, the read address, LEN reads with `last` on the final one, one STOP; the
bytes in RXBUF[0..LEN-1] in receive order; every other byte and register unchanged. The first NACK on written byte 1, 2 or 3
with NACK_IS_FAULT: 4, 5 or 7 steps, one STOP, BUS_FAULT, no byte of RXBUF and no other register changed. -/
def Obligations.I2cReadRunsInLenPlusSevenSteps : Prop :=
  ∀ (reg : Byte) (len : Nat) (s : State) (st a b rs c sp : Answer) (bytes : List Answer) (rest : List Reply),
    begins (.i2cRead reg len) s = true → s.i2cDev ≠ 0 → 1 ≤ len → len ≤ 16 →
    ((s.params.nackIsFault = false ∨ (a.ack = .ack ∧ b.ack = .ack ∧ c.ack = .ack)) → bytes.length = len →
      s.i2cReplies = ([st, a, b, rs, c] ++ bytes ++ [sp]).map .answer ++ rest →
      ∃ t, run (len + 7) s = .next t ∧
        t = { completed .ok s with
          held := false, i2cReplies := rest, rxbuf := t.rxbuf,
          history := s.history ++
            [.i2cStart, .i2cWrite (addressWrite s.i2cDev) a.ack, .i2cWrite reg b.ack, .i2cRstart,
             .i2cWrite (addressRead s.i2cDev) c.ack] ++
            bytes.mapIdx (fun i y => .i2cRead (i + 1 == len) (y.data.extractLsb' 0 8)) ++ [.i2cStop] } ∧
        (∀ i y, bytes[i]? = some y → rxByte t i = y.data.extractLsb' 0 8) ∧ ∀ i, len ≤ i → rxByte t i = rxByte s i) ∧
    (s.params.nackIsFault = true →
      (a.ack = .nack → s.i2cReplies = [st, a, sp].map .answer ++ rest →
        run 4 s = .next { completed .busFault s with
          held := false, i2cReplies := rest,
          history := s.history ++ [.i2cStart, .i2cWrite (addressWrite s.i2cDev) .nack, .i2cStop] }) ∧
      (a.ack = .ack → b.ack = .nack → s.i2cReplies = [st, a, b, sp].map .answer ++ rest →
        run 5 s = .next { completed .busFault s with
          held := false, i2cReplies := rest,
          history := s.history ++
            [.i2cStart, .i2cWrite (addressWrite s.i2cDev) .ack, .i2cWrite reg .nack, .i2cStop] }) ∧
      (a.ack = .ack → b.ack = .ack → c.ack = .nack → s.i2cReplies = [st, a, b, rs, c, sp].map .answer ++ rest →
        run 7 s = .next { completed .busFault s with
          held := false, i2cReplies := rest,
          history := s.history ++
            [.i2cStart, .i2cWrite (addressWrite s.i2cDev) .ack, .i2cWrite reg .ack, .i2cRstart,
             .i2cWrite (addressRead s.i2cDev) .nack, .i2cStop] }))

/-! ### The SPI commands (43_spi.md) -/

/-- R203, R205: the steps of SPI.WRITE: assert, instruction, address high byte first, data byte, deassert, completion. -/
def Obligations.SpiWriteRunsItsFrame : Prop :=
  (∀ (instr d8 : Byte) (s : State) (x : Answer), nextReply .spi s = .answer x →
    (s.phase = .start → exec (.spiWrite instr d8) s = .next
      { afterEvent .spi .csAssert .spiInstr s with cs := true }) ∧
    (s.phase = .txn .spiInstr → exec (.spiWrite instr d8) s = .next
      (afterEvent .spi (.spiXfer instr (dataByte x.data)) .spiAddrHigh s)) ∧
    (s.phase = .txn .spiAddrHigh → exec (.spiWrite instr d8) s = .next
      (afterEvent .spi (.spiXfer (s.maddr.extractLsb' 8 8) (dataByte x.data)) .spiAddrLow s)) ∧
    (s.phase = .txn .spiAddrLow → exec (.spiWrite instr d8) s = .next
      (afterEvent .spi (.spiXfer (s.maddr.extractLsb' 0 8) (dataByte x.data)) .spiData s)) ∧
    (s.phase = .txn .spiData → exec (.spiWrite instr d8) s = .next
      (afterEvent .spi (.spiXfer d8 (dataByte x.data)) .spiRelease s)) ∧
    (s.phase = .txn .spiRelease → exec (.spiWrite instr d8) s = .next
      { afterEvent .spi .csDeassert (.ended .ok) s with cs := false })) ∧
  ∀ (instr d8 : Byte) (s : State), s.phase = .txn (.ended .ok) → exec (.spiWrite instr d8) s = .next (completed .ok s)

/-- R203, R208: the steps of SPI.READ: the length check, assert, instruction, address, LEN dummy transfers into RXBUF,
deassert, completion. -/
def Obligations.SpiReadRunsItsFrame : Prop :=
  (∀ (instr : Byte) (len : Nat) (s : State), s.phase = .start → (len < 1 ∨ 16 < len) →
    exec (.spiRead instr len) s = .next (completed .invalidLength s)) ∧
  (∀ (instr : Byte) (len : Nat) (s : State) (x : Answer), nextReply .spi s = .answer x →
    (s.phase = .start → 1 ≤ len → len ≤ 16 → exec (.spiRead instr len) s = .next
      { afterEvent .spi .csAssert .spiInstr s with cs := true }) ∧
    (s.phase = .txn .spiInstr → exec (.spiRead instr len) s = .next
      (afterEvent .spi (.spiXfer instr (dataByte x.data)) .spiAddrHigh s)) ∧
    (s.phase = .txn .spiAddrHigh → exec (.spiRead instr len) s = .next
      (afterEvent .spi (.spiXfer (s.maddr.extractLsb' 8 8) (dataByte x.data)) .spiAddrLow s)) ∧
    (s.phase = .txn .spiAddrLow → exec (.spiRead instr len) s = .next
      (afterEvent .spi (.spiXfer (s.maddr.extractLsb' 0 8) (dataByte x.data)) (.spiByte 0) s)) ∧
    (∀ i, s.phase = .txn (.spiByte i) → exec (.spiRead instr len) s = .next
      (if i < len then
        { afterEvent .spi (.spiXfer 0x00 (dataByte x.data)) (.spiByte (i + 1)) s with
          rxbuf := s.rxbuf.setIfInBounds i (x.data.extractLsb' 0 8) }
      else { afterEvent .spi .csDeassert (.ended .ok) s with cs := false }))) ∧
  ∀ (instr : Byte) (len : Nat) (s : State), s.phase = .txn (.ended .ok) →
    exec (.spiRead instr len) s = .next (completed .ok s)

/-- R211, R214: the steps of SPI.CMD (assert, instruction, deassert, completion) and of SPI.CMDR (the length check, assert,
instruction, LEN dummy transfers into RXBUF, deassert, completion). Neither sends an address. -/
def Obligations.SpiCmdAndCmdrRunTheirFrames : Prop :=
  (∀ (instr : Byte) (s : State) (x : Answer), nextReply .spi s = .answer x →
    (s.phase = .start → exec (.spiCmd instr) s = .next { afterEvent .spi .csAssert .spiInstr s with cs := true }) ∧
    (s.phase = .txn .spiInstr → exec (.spiCmd instr) s = .next
      (afterEvent .spi (.spiXfer instr (dataByte x.data)) .spiRelease s)) ∧
    (s.phase = .txn .spiRelease → exec (.spiCmd instr) s = .next
      { afterEvent .spi .csDeassert (.ended .ok) s with cs := false })) ∧
  (∀ (instr : Byte) (len : Nat) (s : State), s.phase = .start → (len < 1 ∨ 16 < len) →
    exec (.spiCmdr instr len) s = .next (completed .invalidLength s)) ∧
  (∀ (instr : Byte) (len : Nat) (s : State) (x : Answer), nextReply .spi s = .answer x →
    (s.phase = .start → 1 ≤ len → len ≤ 16 → exec (.spiCmdr instr len) s = .next
      { afterEvent .spi .csAssert .spiInstr s with cs := true }) ∧
    (s.phase = .txn .spiInstr → exec (.spiCmdr instr len) s = .next
      (afterEvent .spi (.spiXfer instr (dataByte x.data)) (.spiByte 0) s)) ∧
    (∀ i, s.phase = .txn (.spiByte i) → exec (.spiCmdr instr len) s = .next
      (if i < len then
        { afterEvent .spi (.spiXfer 0x00 (dataByte x.data)) (.spiByte (i + 1)) s with
          rxbuf := s.rxbuf.setIfInBounds i (x.data.extractLsb' 0 8) }
      else { afterEvent .spi .csDeassert (.ended .ok) s with cs := false }))) ∧
  ∀ (instr : Byte) (len : Nat) (s : State), s.phase = .txn (.ended .ok) →
    exec (.spiCmd instr) s = .next (completed .ok s) ∧ exec (.spiCmdr instr len) s = .next (completed .ok s)

/-- R205, R211, R216: a whole SPI.WRITE takes 7 steps and a whole SPI.CMD 4, each one chip-select frame; no RXBUF byte and no
other register changes. -/
def Obligations.SpiWriteAndCmdRunInOneFrame : Prop :=
  (∀ (instr d8 : Byte) (s : State) (a b c d e f : Answer) (rest : List Reply), begins (.spiWrite instr d8) s = true →
    s.spiReplies = [a, b, c, d, e, f].map .answer ++ rest →
    run 7 s = .next { completed .ok s with
      cs := false, spiReplies := rest,
      history := s.history ++
        [.csAssert, .spiXfer instr (dataByte b.data), .spiXfer (highByte s.maddr) (dataByte c.data),
         .spiXfer (lowByte s.maddr) (dataByte d.data), .spiXfer d8 (dataByte e.data), .csDeassert] }) ∧
  ∀ (instr : Byte) (s : State) (a b c : Answer) (rest : List Reply), begins (.spiCmd instr) s = true →
    s.spiReplies = [a, b, c].map .answer ++ rest →
    run 4 s = .next { completed .ok s with
      cs := false, spiReplies := rest,
      history := s.history ++ [.csAssert, .spiXfer instr (dataByte b.data), .csDeassert] }

/-- R208, R214, R216: a whole SPI.READ of LEN bytes takes LEN + 6 steps and a whole SPI.CMDR LEN + 4, each in one
chip-select frame for every LEN; the bytes stand in RXBUF[0..LEN-1] in receive order, every other byte and register is
unchanged. `header` is what comes before the data: the instruction, and for SPI.READ the address high byte first. -/
def Obligations.SpiReadsRunInOneFrame : Prop :=
  ∀ (instr : Byte) (len : Nat) (s : State) (i : Instr) (header : List Byte) (a z : Answer) (heads bytes : List Answer)
    (rest : List Reply),
    ((i = .spiRead instr len ∧ header = [instr, highByte s.maddr, lowByte s.maddr]) ∨
      (i = .spiCmdr instr len ∧ header = [instr])) →
    begins i s = true → 1 ≤ len → len ≤ 16 → heads.length = header.length → bytes.length = len →
    s.spiReplies = (a :: heads ++ bytes ++ [z]).map .answer ++ rest →
    ∃ t, run (header.length + len + 3) s = .next t ∧
      t = { completed .ok s with
        cs := false, spiReplies := rest, rxbuf := t.rxbuf,
        history := s.history ++ [.csAssert] ++ List.zipWith (fun o y => .spiXfer o (dataByte y.data)) header heads ++
          bytes.map (fun y => .spiXfer 0x00 (dataByte y.data)) ++ [.csDeassert] } ∧
      (∀ j y, bytes[j]? = some y → rxByte t j = y.data.extractLsb' 0 8) ∧ ∀ j, len ≤ j → rxByte t j = rxByte s j

/-! ### The poller (45_poll.md) -/

/-- R250: ready(b) = ((b & MASK) == MATCH); a MATCH with a bit outside MASK is ready for no byte. -/
def Obligations.ReadyPredicateIsMaskAndMatch : Prop :=
  ∀ (s : State) (b : Byte), (ready s b = true ↔ b &&& s.pollMask = s.pollMatch) ∧
    (s.pollMatch &&& ~~~ s.pollMask ≠ 0 → ready s b = false)

/-- R108, R251: `txn_ok()` holds exactly when POLL_TXN decodes to I2C.READ, SPI.READ, SPI.CMDR or UART.READ with LEN = 1,
and, for I2C.READ, DEV is not 0. -/
def Obligations.StatusTransactionsAreOneByteReads : Prop :=
  ∀ s : State, txnOk s = true ↔
    (∃ reg, decode s.pollTxn = .ok (.i2cRead reg 1) ∧ s.i2cDev ≠ 0) ∨ (∃ instr, decode s.pollTxn = .ok (.spiRead instr 1)) ∨
      (∃ instr, decode s.pollTxn = .ok (.spiCmdr instr 1)) ∨ decode s.pollTxn = .ok (.uartRead 1)

/-- R252, R253, R258: the steps of POLL.STEP that make no attempt: a terminal state answers its code at once; Idle without
budget goes to Timeout; Evaluate tests the predicate before the budget; Retry goes to Idle; an attempt that is due with an
invalid POLL_TXN ends INVALID_CONFIG; the last step completes with the code of the state reached. -/
def Obligations.PollStepMakesOneTransition : Prop :=
  ∀ s : State,
    (s.phase = .start →
      (s.pollState = .ready → exec .pollStep s = .next (completed .ok s)) ∧
      (s.pollState = .timeout → exec .pollStep s = .next (completed .timeout s)) ∧
      (s.pollState = .faulted → exec .pollStep s = .next (completed .busFault s)) ∧
      (s.pollState = .idle → s.pollMax.toNat ≤ s.pollAttempts.toNat →
        exec .pollStep s = .next { s with pollState := .timeout, phase := .pollEnd }) ∧
      (s.pollState = .idle → s.pollAttempts.toNat < s.pollMax.toNat → txnOk s = false →
        exec .pollStep s = .next (completed .invalidConfig s)) ∧
      (s.pollState = .evaluate → exec .pollStep s = .next { s with
        pollState := (if ready s s.pollLast then .ready
          else if s.pollMax.toNat ≤ s.pollAttempts.toNat then .timeout else .retry),
        phase := .pollEnd }) ∧
      (s.pollState = .retry → exec .pollStep s = .next { s with pollState := .idle, phase := .pollEnd })) ∧
    (s.phase = .pollEnd → exec .pollStep s = .next (completed
      (match s.pollState with
      | .idle => .ok
      | .evaluate => .ok
      | .ready => .ok
      | .retry => .ok
      | .timeout => .timeout
      | .faulted => .busFault) s))

/-- R252, R255, R262: POLL.INIT arms the poller and completes OK, or completes INVALID_CONFIG with the poll state unchanged.
The steps of POLL.RUN that make no attempt: the check and the arming; the test of the loop, which ends the command in a
terminal state and otherwise makes the transition and comes back. -/
def Obligations.PollInitArmsAndPollRunLoops : Prop :=
  ∀ s : State,
    (s.phase = .start →
      (txnOk s = true →
        exec .pollInit s = .next { completed .ok s with pollState := .idle, pollAttempts := 0, pollLast := 0 } ∧
        exec .pollRun s = .next
          { s with pollState := .idle, pollAttempts := 0, pollLast := 0, phase := .pollTest }) ∧
      (txnOk s = false →
        exec .pollInit s = .next (completed .invalidConfig s) ∧
        exec .pollRun s = .next (completed .invalidConfig s))) ∧
    (s.phase = .pollTest →
      (s.pollState = .ready → exec .pollRun s = .next (completed .ok s)) ∧
      (s.pollState = .timeout → exec .pollRun s = .next (completed .timeout s)) ∧
      (s.pollState = .faulted → exec .pollRun s = .next (completed .busFault s)) ∧
      (s.pollState = .idle → s.pollMax.toNat ≤ s.pollAttempts.toNat →
        exec .pollRun s = .next { s with pollState := .timeout, phase := .pollTest }) ∧
      (s.pollState = .evaluate → exec .pollRun s = .next { s with
        pollState := (if ready s s.pollLast then .ready
          else if s.pollMax.toNat ≤ s.pollAttempts.toNat then .timeout else .retry),
        phase := .pollTest }) ∧
      (s.pollState = .retry → exec .pollRun s = .next { s with pollState := .idle, phase := .pollTest }))

/-- R251, R252: an attempt of POLL.STEP (back = pollEnd) or POLL.RUN (back = pollTest) performs exactly the primitives of its
status transaction: from the same position, the poll's step is the command's own step but for the phase that holds the
position; and where the command would complete, the attempt ends: OK takes RXBUF[0] to Evaluate, BUS_FAULT gives Faulted. -/
def Obligations.AttemptPerformsTheStatusTransaction : Prop :=
  ∀ (s : State) (i poll : Instr) (back : Phase) (p : Pos),
    ((poll = .pollStep ∧ back = .pollEnd) ∨ (poll = .pollRun ∧ back = .pollTest)) → statusTxn s = some i →
    (∀ (q : Pos) (t : State), exec i { s with phase := .txn p } = .next t → t.phase = .txn q →
      ∃ u, exec poll { s with phase := .pollAttempt p } = .next u ∧ u.phase = .pollAttempt q ∧
        u = { t with phase := .pollAttempt q }) ∧
    (exec i { s with phase := .txn p } = .next (completed .ok { s with phase := .txn p }) →
      exec poll { s with phase := .pollAttempt p } = .next { s with
        pollAttempts := s.pollAttempts + 1, pollLast := rxByte s 0, pollState := .evaluate, phase := back }) ∧
    (exec i { s with phase := .txn p } = .next (completed .busFault { s with phase := .txn p }) →
      exec poll { s with phase := .pollAttempt p } = .next { s with
        pollAttempts := s.pollAttempts + 1, pollState := .faulted, phase := back })

/-- R252, R258, R262: an attempt begins in the step that finds the poller Idle with budget left, with the first primitive of
the status transaction in that same step, for each of the four status transactions: chip select is asserted, START is sent,
or the UART's flags are read. -/
def Obligations.AttemptBeginsWithTheFirstPrimitive : Prop :=
  ∀ (s : State) (instr : Byte) (x : Answer), s.pollState = .idle → s.pollAttempts.toNat < s.pollMax.toNat →
    (nextReply .spi s = .answer x →
      (decode s.pollTxn = .ok (.spiCmdr instr 1) ∨ decode s.pollTxn = .ok (.spiRead instr 1)) →
      (s.phase = .start → exec .pollStep s = .next
        { afterEvent .spi .csAssert .spiInstr s with cs := true, phase := .pollAttempt .spiInstr }) ∧
      (s.phase = .pollTest → exec .pollRun s = .next
        { afterEvent .spi .csAssert .spiInstr s with cs := true, phase := .pollAttempt .spiInstr })) ∧
    (nextReply .i2c s = .answer x → decode s.pollTxn = .ok (.i2cRead instr 1) → s.i2cDev ≠ 0 →
      (s.phase = .start → exec .pollStep s = .next
        { afterEvent .i2c .i2cStart .i2cAddress s with held := true, phase := .pollAttempt .i2cAddress }) ∧
      (s.phase = .pollTest → exec .pollRun s = .next
        { afterEvent .i2c .i2cStart .i2cAddress s with held := true, phase := .pollAttempt .i2cAddress })) ∧
    (nextReply .uart s = .answer x → decode s.pollTxn = .ok (.uartRead 1) →
      (s.phase = .start → exec .pollStep s = .next
        { afterEvent .uart (.memRead (uartAddr s.params.uartFrOff s) x.data) (.uartRx 0 x.data) s with
          phase := .pollAttempt (.uartRx 0 x.data) }) ∧
      (s.phase = .pollTest → exec .pollRun s = .next
        { afterEvent .uart (.memRead (uartAddr s.params.uartFrOff s) x.data) (.uartRx 0 x.data) s with
          phase := .pollAttempt (.uartRx 0 x.data) }))

/-- R262, R265: POLL.RUN with MAX = N that is never ready ends TIMEOUT with ATTEMPTS = N after exactly N transactions.
First clause: any of the four status transactions, with the answers of N attempts listed and no status byte ready: the sum
over the attempts of (p + 3), plus 1, steps for N >= 1 and 3 for N = 0; exactly the events of the N attempts; no other
register changes. Second clause: the status transaction SPI.CMDR (p = 4), a predicate no byte satisfies, and transports of
which it is known only that the replies listed complete; that an empty list completes too is the model's choice (log 4). -/
def Obligations.PollRunNeverReadyTimesOutAfterMaxAttempts : Prop :=
  (∀ (s : State) (i : Instr) (attempts : List Attempt) (rest : List Reply), begins .pollRun s = true →
    consistent s = true → statusTxn s = some i → (∀ x ∈ attempts, attemptOf s i x.answers = some x) →
    attempts.length = s.pollMax.toNat → (∀ x ∈ attempts, ready s x.byte = false) →
    repliesOf (busOf i) s = (attempts.flatMap (·.answers)).map .answer ++ rest →
    run (if attempts = [] then 3 else attemptSteps attempts + 1) s =
      .next { completed .timeout (afterAttempts (busOf i) attempts rest s) with pollState := .timeout }) ∧
  ∀ (s : State) (instr : Byte), begins .pollRun s = true → decode s.pollTxn = .ok (.spiCmdr instr 1) →
    completes .spi s = true → (∀ b, ready s b = false) →
    ∃ t, run (if s.pollMax = 0 then 3 else s.pollMax.toNat * 7 + 1) s = .next t ∧ t.busy = false ∧ t.done = true ∧
      t.result = .timeout ∧ t.pollState = .timeout ∧ t.pollAttempts = s.pollMax ∧
      framesOpened t.history = framesOpened s.history + s.pollMax.toNat

/-- R262, R265: how a whole POLL.RUN ends. First clause: any of the four status transactions, ready first at attempt
k <= MAX: OK in Ready with ATTEMPTS = k after the sum over the k attempts of (p + 3), plus 1, steps. Second clause: an
I2C.READ status transaction whose attempt k <= MAX is NACKed, none before it being ready: BUS_FAULT in Faulted with
ATTEMPTS = k, LAST and RXBUF as the attempt before left them. Both leave exactly the events of their attempts and no other
register changed. Third clause: with SPI.CMDR and transports of which it is known only that the replies listed complete,
POLL.RUN ends within MAX*(4 + 3) + 3 steps, after at most MAX transactions, with OK in Ready or TIMEOUT in Timeout, whatever
the status bytes are; that an empty list completes too is the model's choice (log 4). -/
def Obligations.PollRunTerminatesWithinItsBudget : Prop :=
  (∀ (s : State) (i : Instr) (early : List Attempt) (x : Attempt) (rest : List Reply), begins .pollRun s = true →
    consistent s = true → statusTxn s = some i → (∀ y ∈ early ++ [x], attemptOf s i y.answers = some y) →
    early.length < s.pollMax.toNat → (∀ y ∈ early, ready s y.byte = false) → ready s x.byte = true →
    repliesOf (busOf i) s = ((early ++ [x]).flatMap (·.answers)).map .answer ++ rest →
    run (attemptSteps (early ++ [x]) + 1) s =
      .next { completed .ok (afterAttempts (busOf i) (early ++ [x]) rest s) with pollState := .ready }) ∧
  (∀ (s : State) (reg : Byte) (early : List Attempt) (as : List Answer) (es : List Event) (rest : List Reply),
    begins .pollRun s = true → consistent s = true → statusTxn s = some (.i2cRead reg 1) →
    (∀ y ∈ early, attemptOf s (.i2cRead reg 1) y.answers = some y) → early.length < s.pollMax.toNat →
    (∀ y ∈ early, ready s y.byte = false) → nackedAttempt s reg as = some es →
    s.i2cReplies = (early.flatMap (·.answers) ++ as).map .answer ++ rest →
    run (attemptSteps early + as.length + 3) s =
      .next { completed .busFault (afterAttempts .i2c early rest s) with
        pollState := .faulted, pollAttempts := BitVec.ofNat 16 (early.length + 1),
        history := s.history ++ early.flatMap (·.events) ++ es }) ∧
  ∀ (s : State) (instr : Byte), begins .pollRun s = true → decode s.pollTxn = .ok (.spiCmdr instr 1) →
    completes .spi s = true →
    ∃ n t, n ≤ s.pollMax.toNat * 7 + 3 ∧ run n s = .next t ∧ t.busy = false ∧ t.done = true ∧
      framesOpened t.history ≤ framesOpened s.history + s.pollMax.toNat ∧
      ((t.result = .ok ∧ t.pollState = .ready ∧ ready t t.pollLast = true) ∨
        (t.result = .timeout ∧ t.pollState = .timeout ∧ s.pollMax.toNat ≤ t.pollAttempts.toNat))

/-- R266. Ready is entered from Evaluate with ready(LAST). Timeout has ATTEMPTS ≥ MAX, and came from Evaluate with LAST not
ready, or from Idle; Idle comes only from Retry, which comes only from Evaluate with LAST not ready and budget left, or from
arming with ATTEMPTS = 0: so MAX = 0 or the latest status byte was not ready. Evaluate is entered at the end of an attempt,
which ATTEMPTS then counts, with LAST its byte RXBUF[0]; LAST changes nowhere else, and ATTEMPTS only there and at Faulted,
but where the poller is armed: so in Evaluate and in what follows it LAST is the byte of attempt ATTEMPTS. Faulted is entered
at the end of an attempt of an I2C status transaction, which ATTEMPTS then counts, after its BUS_FAULT; that end is reached
only from the check of a NACK with NACK_IS_FAULT, and the NACK was the answer recorded in the step before. One POLL.RUN goes
from Retry to Idle at most MAX - 1 times. -/
def Obligations.PollOutcomesMeanWhatR266Says : Prop :=
  (∀ (i : Instr) (s t : State), consistent s = true → decode s.cur = .ok i → s.busy = true → exec i s = .next t →
    (t.pollState ≠ s.pollState →
      (t.pollState = .ready → s.pollState = .evaluate ∧ ready s s.pollLast = true) ∧
      (t.pollState = .timeout → s.pollMax.toNat ≤ s.pollAttempts.toNat ∧
        (s.pollState = .idle ∨ (s.pollState = .evaluate ∧ ready s s.pollLast = false))) ∧
      (t.pollState = .evaluate → (∃ p, s.phase = .pollAttempt p) ∧ t.pollLast = rxByte s 0 ∧
        t.pollAttempts.toNat = s.pollAttempts.toNat + 1) ∧
      (t.pollState = .faulted → s.phase = .pollAttempt (.ended .busFault) ∧ s.params.nackIsFault = true ∧
        t.pollAttempts.toNat = s.pollAttempts.toNat + 1 ∧ ∃ reg, decode s.pollTxn = .ok (.i2cRead reg 1)) ∧
      (t.pollState = .retry → s.pollState = .evaluate ∧ ready s s.pollLast = false ∧
        s.pollAttempts.toNat < s.pollMax.toNat) ∧
      (t.pollState = .idle → s.pollState = .retry ∨ (t.pollAttempts = 0 ∧ t.pollLast = 0))) ∧
    (t.pollLast ≠ s.pollLast → (s.pollState = .idle ∧ t.pollState = .evaluate) ∨
      (t.pollState = .idle ∧ t.pollAttempts = 0 ∧ t.pollLast = 0)) ∧
    (t.pollAttempts ≠ s.pollAttempts → (s.pollState = .idle ∧ (t.pollState = .evaluate ∨ t.pollState = .faulted)) ∨
      (t.pollState = .idle ∧ t.pollAttempts = 0 ∧ t.pollLast = 0)) ∧
    (t.phase = .pollAttempt (.ended .busFault) → s.params.nackIsFault = true ∧
      s.phase ∈ [.pollAttempt (.i2cRegister .nack), .pollAttempt (.i2cRestart .nack), .pollAttempt (.i2cReadFirst .nack)]) ∧
    (t.phase ∈ [.pollAttempt (.i2cRegister .nack), .pollAttempt (.i2cRestart .nack), .pollAttempt (.i2cReadFirst .nack)] →
      t.phase = s.phase ∨ ∃ b, t.history = s.history ++ [.i2cWrite b .nack])) ∧
  ∀ (s : State) (n : Nat), begins .pollRun s = true → retryEdges n s ≤ s.pollMax.toNat - 1

/-! ### The whole machine -/

/-- The invariant that every step keeps: R52 and R130 (the phase is one of the command in CUR, BUSY says whether one runs),
R181 and R200 (the lines are active exactly inside their frames), R93 (one bus at a time), R267 (POLL_INFO), and a history in
which every frame is opened once and closed once. -/
def Obligations.EveryStepKeepsTheStateConsistent : Prop :=
  ∀ s t : State, consistent s = true → step s = .next t → consistent t = true

/-- The invariant holds after reset. -/
def Obligations.ResetIsConsistent : Prop :=
  consistent State.reset = true

/-- R296, R140: no outcome of the core is a trap. From a consistent state a step never faults (the only fault a step could
answer is the model's own strayPhase, log 11), and it is refused only for parameters that are not aligned (R85), or when the
first turn is a host access that R71 gives no meaning: one that is not 4 bytes wide, inside the window and at a multiple of 4.
For those it is refused, from every state; the refusals have names of the model's own (log 8). -/
def Obligations.NoOutcomeOfTheCoreIsATrap : Prop :=
  (∀ s : State, consistent s = true →
    (∀ f, step s ≠ .fault f) ∧
    (∀ r, step s = .refused r →
      r = .parameterAlignment ∧ s.params.aligned = false ∨
      (r = .hostWidth ∨ r = .hostAlignment ∨ r = .hostWindow) ∧ ∃ a rest, s.agenda = .host a :: rest ∧
        ¬ (a.bytes = 4 ∧ s.params.blockBase ≤ a.addr ∧ a.addr < s.params.blockBase + 0x100 ∧
          (a.addr - s.params.blockBase) % 4 = 0))) ∧
  (∀ s : State, s.params.aligned = false → step s = .refused .parameterAlignment) ∧
  ∀ (s : State) (a : HostAccess) (rest : List Turn), s.params.aligned = true → s.agenda = .host a :: rest →
    ¬ (a.bytes = 4 ∧ s.params.blockBase ≤ a.addr ∧ a.addr < s.params.blockBase + 0x100 ∧
      (a.addr - s.params.blockBase) % 4 = 0) →
    step s = .refused .hostWidth ∨ step s = .refused .hostWindow ∨ step s = .refused .hostAlignment

/-- R292: in a consistent state, a command that completes does so with one of the codes its row of R292 allows, and with
BUS_FAULT only when NACK_IS_FAULT = true. -/
def Obligations.CommandsEndWithTheirCodesOnly : Prop :=
  ∀ (i : Instr) (s t : State), consistent s = true → s.busy = true → decode s.cur = .ok i → exec i s = .next t →
    t.busy = false → t.result ∈ codes i ∧ (t.result = .busFault → s.params.nackIsFault = true) ∧ t.done = true ∧
      t.phase = .idle

/-- R130, R131, R96: no sequencer step of any command writes CMD, a configuration register, REJECT or the parameters, so the
configuration of the running command cannot change. -/
def Obligations.CommandsLeaveTheConfiguration : Prop :=
  ∀ (i : Instr) (s t : State), exec i s = .next t →
    t.cur = s.cur ∧ t.i2cDev = s.i2cDev ∧ t.maddr = s.maddr ∧ t.clkHz = s.clkHz ∧ t.baud = s.baud ∧
      t.uartLcr = s.uartLcr ∧ t.uartCr = s.uartCr ∧ t.pollMask = s.pollMask ∧ t.pollMatch = s.pollMatch ∧
      t.pollMax = s.pollMax ∧ t.pollTxn = s.pollTxn ∧ t.reject = s.reject ∧ t.params = s.params ∧ t.agenda = s.agenda

/-- R37, R43, R44, R49, R50, R51: which commands write BAUDDIV, ASMV, the channels, the lines and POLL_INFO. A poll moves a line
only where its status transaction is a command of that line's bus: CS for SPI.READ and SPI.CMDR, HELD for I2C.READ. -/
def Obligations.EachResultRegisterHasItsWriters : Prop :=
  ∀ (i : Instr) (s t : State), exec i s = .next t →
    (t.ibrd ≠ s.ibrd ∨ t.fbrd ≠ s.fbrd → i = .baudCalc ∨ i = .uartInit) ∧
    (t.asmv ≠ s.asmv → ∃ k, i = .asm16 k) ∧ (t.ch ≠ s.ch → i = .asmSample) ∧
    (t.pollState ≠ s.pollState ∨ t.pollAttempts ≠ s.pollAttempts ∨ t.pollLast ≠ s.pollLast →
      i = .pollInit ∨ i = .pollStep ∨ i = .pollRun) ∧
    (t.cs ≠ s.cs → (∃ a b, i = .spiWrite a b) ∨ (∃ a n, i = .spiRead a n) ∨ (∃ a, i = .spiCmd a) ∨
      (∃ a n, i = .spiCmdr a n) ∨
      ((i = .pollStep ∨ i = .pollRun) ∧
        ((∃ a, decode s.pollTxn = .ok (.spiRead a 1)) ∨ ∃ a, decode s.pollTxn = .ok (.spiCmdr a 1)))) ∧
    (t.held ≠ s.held → (∃ a b, i = .i2cWrite a b) ∨ (∃ a n, i = .i2cRead a n) ∨
      ((i = .pollStep ∨ i = .pollRun) ∧ ∃ a, decode s.pollTxn = .ok (.i2cRead a 1)))

/-- R46: a read command of length LEN writes at most RXBUF[0] to RXBUF[LEN-1] (a poll attempt: RXBUF[0]); every other
command writes no byte of it. From consistent states, where the byte index is below LEN. -/
def Obligations.ReadsWriteOnlyTheirPartOfRxbuf : Prop :=
  ∀ (i : Instr) (s t : State) (j : Nat), consistent s = true → s.busy = true → decode s.cur = .ok i →
    exec i s = .next t → rxByte t j ≠ rxByte s j →
    (∃ len, i = .uartRead len ∧ j < len) ∨ (∃ reg len, i = .i2cRead reg len ∧ j < len) ∨
      (∃ instr len, i = .spiRead instr len ∧ j < len) ∨ (∃ instr len, i = .spiCmdr instr len ∧ j < len) ∨
      ((i = .pollStep ∨ i = .pollRun) ∧ j = 0)

/-- R15, R91, R130, R134: a step of a command adds at most one event to the history, a primitive or UART access, and never
rewrites what is recorded; until its completion step the command leaves RESULT and DONE as they are; the completion step
itself adds no event ("never merged with" a primitive). -/
def Obligations.OneEventPerStepAndCompletionApart : Prop :=
  ∀ (i : Instr) (s t : State), exec i s = .next t → s.busy = true →
    (t.history = s.history ∨ ∃ e, busEvent e = true ∧ t.history = s.history ++ [e]) ∧
    (t.busy = true → t.result = s.result ∧ t.done = s.done ∧ t.phase ≠ .idle) ∧
    (t.busy = false → t.history = s.history ∧ t.done = true ∧ t.phase = .idle)
end

