-- ==== Sys2Proof/Laws/Decode.lean ====
section
/-! SUPPORT. The fields of a command word (R101), and the masks of R103 read as conditions on fields. -/

namespace Sys2Proof

/-- Bit i of a command word, field by field from the bottom (R101). -/
theorem getLsbD_commandWord (len : BitVec 5) (d8 a8 : Byte) (op : BitVec 5) (i : Nat) :
    (commandWord len d8 a8 op).getLsbD i =
      if i < 5 then op.getLsbD i
      else if i < 8 then false
      else if i < 16 then a8.getLsbD (i - 8)
      else if i < 24 then d8.getLsbD (i - 16)
      else if i < 29 then len.getLsbD (i - 24)
      else false := by
  unfold commandWord
  simp only [BitVec.getLsbD_append, BitVec.getLsbD_zero]
  split_ifs <;> first | rfl | omega

@[simp] theorem opField_commandWord (len : BitVec 5) (d8 a8 : Byte) (op : BitVec 5) :
    opField (commandWord len d8 a8 op) = op := by
  apply BitVec.eq_of_getLsbD_eq
  intro i hi
  simp [opField, getLsbD_commandWord, hi]

@[simp] theorem rsv0Field_commandWord (len : BitVec 5) (d8 a8 : Byte) (op : BitVec 5) :
    rsv0Field (commandWord len d8 a8 op) = 0 := by
  apply BitVec.eq_of_getLsbD_eq
  intro i hi
  simp [rsv0Field, getLsbD_commandWord]
  omega

@[simp] theorem a8Field_commandWord (len : BitVec 5) (d8 a8 : Byte) (op : BitVec 5) :
    a8Field (commandWord len d8 a8 op) = a8 := by
  apply BitVec.eq_of_getLsbD_eq
  intro i hi
  simp [a8Field, getLsbD_commandWord, hi, show ¬ 8 + i < 5 by omega, show 8 + i < 16 by omega]

@[simp] theorem d8Field_commandWord (len : BitVec 5) (d8 a8 : Byte) (op : BitVec 5) :
    d8Field (commandWord len d8 a8 op) = d8 := by
  apply BitVec.eq_of_getLsbD_eq
  intro i hi
  simp [d8Field, getLsbD_commandWord, hi, show ¬ 16 + i < 5 by omega, show ¬ 16 + i < 8 by omega,
    show 16 + i < 24 by omega]

@[simp] theorem lenField_commandWord (len : BitVec 5) (d8 a8 : Byte) (op : BitVec 5) :
    lenField (commandWord len d8 a8 op) = len := by
  apply BitVec.eq_of_getLsbD_eq
  intro i hi
  simp [lenField, getLsbD_commandWord, hi, show ¬ 24 + i < 5 by omega, show ¬ 24 + i < 8 by omega,
    show ¬ 24 + i < 16 by omega, show 24 + i < 29 by omega]

@[simp] theorem rsv1Field_commandWord (len : BitVec 5) (d8 a8 : Byte) (op : BitVec 5) :
    rsv1Field (commandWord len d8 a8 op) = 0 := by
  apply BitVec.eq_of_getLsbD_eq
  intro i hi
  simp [rsv1Field, getLsbD_commandWord, show ¬ 29 + i < 5 by omega, show ¬ 29 + i < 8 by omega,
    show ¬ 29 + i < 16 by omega, show ¬ 29 + i < 24 by omega]

/-- A word with both reserved fields 0 is the command word of its own fields. -/
theorem commandWord_fields {w : Word} (h0 : rsv0Field w = 0) (h1 : rsv1Field w = 0) :
    commandWord (lenField w) (d8Field w) (a8Field w) (opField w) = w := by
  apply BitVec.eq_of_getLsbD_eq
  intro i hi
  have r0 : ∀ j, (rsv0Field w).getLsbD j = false := by simp [h0]
  have r1 : ∀ j, (rsv1Field w).getLsbD j = false := by simp [h1]
  rw [getLsbD_commandWord]
  simp only [rsv0Field, rsv1Field, BitVec.getLsbD_extractLsb', opField, a8Field, d8Field, lenField] at *
  have e0 := r0 (i - 5)
  have e1 := r1 (i - 29)
  by_cases c5 : i < 5
  · simp [c5]
  · by_cases c8 : i < 8
    · simp [c5, c8]
      simpa [show i - 5 < 3 by omega, show 5 + (i - 5) = i by omega] using e0.symm
    · by_cases c16 : i < 16
      · simp [c5, c8, c16, show i - 8 < 8 by omega, show 8 + (i - 8) = i by omega]
      · by_cases c24 : i < 24
        · simp [c5, c8, c16, c24, show i - 16 < 8 by omega, show 16 + (i - 16) = i by omega]
        · by_cases c29 : i < 29
          · simp [c5, c8, c16, c24, c29, show i - 24 < 5 by omega, show 24 + (i - 24) = i by omega]
          · simp [c5, c8, c16, c24, c29]
            simpa [show i - 29 < 3 by omega, show 29 + (i - 29) = i by omega] using e1.symm

/-- An equality of words, field by field. -/
theorem word_eq_iff (v w : Word) :
    v = w ↔ opField v = opField w ∧ rsv0Field v = rsv0Field w ∧ a8Field v = a8Field w ∧ d8Field v = d8Field w ∧
      lenField v = lenField w ∧ rsv1Field v = rsv1Field w := by
  constructor
  · rintro rfl
    simp
  · rintro ⟨h0, h1, h2, h3, h4, h5⟩
    apply BitVec.eq_of_getLsbD_eq
    intro i hi
    have g {n k : Nat} (h : v.extractLsb' k n = w.extractLsb' k n) (a : k ≤ i) (b : i < k + n) :
        v.getLsbD i = w.getLsbD i := by
      have := congrArg (fun x => x.getLsbD (i - k)) h
      simpa [show i - k < n by omega, show k + (i - k) = i by omega] using this
    by_cases c5 : i < 5
    · exact g h0 (by omega) (by omega)
    by_cases c8 : i < 8
    · exact g h1 (by omega) (by omega)
    by_cases c16 : i < 16
    · exact g h2 (by omega) (by omega)
    by_cases c24 : i < 24
    · exact g h3 (by omega) (by omega)
    by_cases c29 : i < 29
    · exact g h4 (by omega) (by omega)
    · exact g h5 (by omega) (by omega)

@[simp] theorem opField_and (v w : Word) : opField (v &&& w) = opField v &&& opField w := by
  ext i; simp [opField]

@[simp] theorem rsv0Field_and (v w : Word) : rsv0Field (v &&& w) = rsv0Field v &&& rsv0Field w := by
  ext i; simp [rsv0Field]

@[simp] theorem a8Field_and (v w : Word) : a8Field (v &&& w) = a8Field v &&& a8Field w := by
  ext i; simp [a8Field]

@[simp] theorem d8Field_and (v w : Word) : d8Field (v &&& w) = d8Field v &&& d8Field w := by
  ext i; simp [d8Field]

@[simp] theorem lenField_and (v w : Word) : lenField (v &&& w) = lenField v &&& lenField w := by
  ext i; simp [lenField]

@[simp] theorem rsv1Field_and (v w : Word) : rsv1Field (v &&& w) = rsv1Field v &&& rsv1Field w := by
  ext i; simp [rsv1Field]

theorem and_ones3 (x : BitVec 3) : x &&& 7#3 = x := BitVec.and_allOnes

theorem and_ones5 (x : BitVec 5) : x &&& 31#5 = x := BitVec.and_allOnes

theorem and_ones8 (x : BitVec 8) : x &&& 255#8 = x := BitVec.and_allOnes

theorem opField_plain_mask : opField 0xFFFFFFFF#32 = 31#5 := by decide
theorem rsv0Field_plain_mask : rsv0Field 0xFFFFFFFF#32 = 7#3 := by decide
theorem a8Field_plain_mask : a8Field 0xFFFFFFFF#32 = 255#8 := by decide
theorem d8Field_plain_mask : d8Field 0xFFFFFFFF#32 = 255#8 := by decide
theorem lenField_plain_mask : lenField 0xFFFFFFFF#32 = 31#5 := by decide
theorem rsv1Field_plain_mask : rsv1Field 0xFFFFFFFF#32 = 7#3 := by decide
theorem opField_d8_mask : opField 0xFF00FFFF#32 = 31#5 := by decide
theorem rsv0Field_d8_mask : rsv0Field 0xFF00FFFF#32 = 7#3 := by decide
theorem a8Field_d8_mask : a8Field 0xFF00FFFF#32 = 255#8 := by decide
theorem d8Field_d8_mask : d8Field 0xFF00FFFF#32 = 0#8 := by decide
theorem lenField_d8_mask : lenField 0xFF00FFFF#32 = 31#5 := by decide
theorem rsv1Field_d8_mask : rsv1Field 0xFF00FFFF#32 = 7#3 := by decide
theorem opField_len_mask : opField 0xE0FFFFFF#32 = 31#5 := by decide
theorem rsv0Field_len_mask : rsv0Field 0xE0FFFFFF#32 = 7#3 := by decide
theorem a8Field_len_mask : a8Field 0xE0FFFFFF#32 = 255#8 := by decide
theorem d8Field_len_mask : d8Field 0xE0FFFFFF#32 = 255#8 := by decide
theorem lenField_len_mask : lenField 0xE0FFFFFF#32 = 0#5 := by decide
theorem rsv1Field_len_mask : rsv1Field 0xE0FFFFFF#32 = 7#3 := by decide
theorem opField_a8d8_mask : opField 0xFF0000FF#32 = 31#5 := by decide
theorem rsv0Field_a8d8_mask : rsv0Field 0xFF0000FF#32 = 7#3 := by decide
theorem a8Field_a8d8_mask : a8Field 0xFF0000FF#32 = 0#8 := by decide
theorem d8Field_a8d8_mask : d8Field 0xFF0000FF#32 = 0#8 := by decide
theorem lenField_a8d8_mask : lenField 0xFF0000FF#32 = 31#5 := by decide
theorem rsv1Field_a8d8_mask : rsv1Field 0xFF0000FF#32 = 7#3 := by decide
theorem opField_a8len_mask : opField 0xE0FF00FF#32 = 31#5 := by decide
theorem rsv0Field_a8len_mask : rsv0Field 0xE0FF00FF#32 = 7#3 := by decide
theorem a8Field_a8len_mask : a8Field 0xE0FF00FF#32 = 0#8 := by decide
theorem d8Field_a8len_mask : d8Field 0xE0FF00FF#32 = 255#8 := by decide
theorem lenField_a8len_mask : lenField 0xE0FF00FF#32 = 0#5 := by decide
theorem rsv1Field_a8len_mask : rsv1Field 0xE0FF00FF#32 = 7#3 := by decide
theorem opField_a8_mask : opField 0xFFFF00FF#32 = 31#5 := by decide
theorem rsv0Field_a8_mask : rsv0Field 0xFFFF00FF#32 = 7#3 := by decide
theorem a8Field_a8_mask : a8Field 0xFFFF00FF#32 = 0#8 := by decide
theorem d8Field_a8_mask : d8Field 0xFFFF00FF#32 = 255#8 := by decide
theorem lenField_a8_mask : lenField 0xFFFF00FF#32 = 31#5 := by decide
theorem rsv1Field_a8_mask : rsv1Field 0xFFFF00FF#32 = 7#3 := by decide

/-- The mask 0xFFFFFFFF tests OP, the reserved bits and the fields its rows leave unused (R104). -/
theorem selects_plain (w : Word) (op : BitVec 5) :
    (w &&& 0xFFFFFFFF#32 == commandWord 0#5 0#8 0#8 op) =
      decide (opField w = op ∧ rsv0Field w = 0 ∧ rsv1Field w = 0 ∧ a8Field w = 0 ∧ d8Field w = 0 ∧ lenField w = 0) := by
  rw [Bool.eq_iff_iff, beq_iff_eq, decide_eq_true_iff, word_eq_iff]
  simp [opField_plain_mask, rsv0Field_plain_mask, a8Field_plain_mask,
    d8Field_plain_mask, lenField_plain_mask, rsv1Field_plain_mask, and_ones3, and_ones5, and_ones8]
  tauto

/-- The mask 0xFF00FFFF tests OP, the reserved bits and the fields its rows leave unused (R104). -/
theorem selects_d8 (w : Word) (op : BitVec 5) :
    (w &&& 0xFF00FFFF#32 == commandWord 0#5 0#8 0#8 op) =
      decide (opField w = op ∧ rsv0Field w = 0 ∧ rsv1Field w = 0 ∧ a8Field w = 0 ∧ lenField w = 0) := by
  rw [Bool.eq_iff_iff, beq_iff_eq, decide_eq_true_iff, word_eq_iff]
  simp [opField_d8_mask, rsv0Field_d8_mask, a8Field_d8_mask,
    d8Field_d8_mask, lenField_d8_mask, rsv1Field_d8_mask, and_ones3, and_ones5, and_ones8]
  tauto

/-- The mask 0xE0FFFFFF tests OP, the reserved bits and the fields its rows leave unused (R104). -/
theorem selects_len (w : Word) (op : BitVec 5) :
    (w &&& 0xE0FFFFFF#32 == commandWord 0#5 0#8 0#8 op) =
      decide (opField w = op ∧ rsv0Field w = 0 ∧ rsv1Field w = 0 ∧ a8Field w = 0 ∧ d8Field w = 0) := by
  rw [Bool.eq_iff_iff, beq_iff_eq, decide_eq_true_iff, word_eq_iff]
  simp [opField_len_mask, rsv0Field_len_mask, a8Field_len_mask,
    d8Field_len_mask, lenField_len_mask, rsv1Field_len_mask, and_ones3, and_ones5, and_ones8]
  tauto

/-- The mask 0xFF0000FF tests OP, the reserved bits and the fields its rows leave unused (R104). -/
theorem selects_a8d8 (w : Word) (op : BitVec 5) :
    (w &&& 0xFF0000FF#32 == commandWord 0#5 0#8 0#8 op) =
      decide (opField w = op ∧ rsv0Field w = 0 ∧ rsv1Field w = 0 ∧ lenField w = 0) := by
  rw [Bool.eq_iff_iff, beq_iff_eq, decide_eq_true_iff, word_eq_iff]
  simp [opField_a8d8_mask, rsv0Field_a8d8_mask, a8Field_a8d8_mask,
    d8Field_a8d8_mask, lenField_a8d8_mask, rsv1Field_a8d8_mask, and_ones3, and_ones5]
  tauto

/-- The mask 0xE0FF00FF tests OP, the reserved bits and the fields its rows leave unused (R104). -/
theorem selects_a8len (w : Word) (op : BitVec 5) :
    (w &&& 0xE0FF00FF#32 == commandWord 0#5 0#8 0#8 op) =
      decide (opField w = op ∧ rsv0Field w = 0 ∧ rsv1Field w = 0 ∧ d8Field w = 0) := by
  rw [Bool.eq_iff_iff, beq_iff_eq, decide_eq_true_iff, word_eq_iff]
  simp [opField_a8len_mask, rsv0Field_a8len_mask, a8Field_a8len_mask,
    d8Field_a8len_mask, lenField_a8len_mask, rsv1Field_a8len_mask, and_ones3, and_ones5, and_ones8]
  tauto

/-- The mask 0xFFFF00FF tests OP, the reserved bits and the fields its rows leave unused (R104). -/
theorem selects_a8 (w : Word) (op : BitVec 5) :
    (w &&& 0xFFFF00FF#32 == commandWord 0#5 0#8 0#8 op) =
      decide (opField w = op ∧ rsv0Field w = 0 ∧ rsv1Field w = 0 ∧ d8Field w = 0 ∧ lenField w = 0) := by
  rw [Bool.eq_iff_iff, beq_iff_eq, decide_eq_true_iff, word_eq_iff]
  simp [opField_a8_mask, rsv0Field_a8_mask, a8Field_a8_mask,
    d8Field_a8_mask, lenField_a8_mask, rsv1Field_a8_mask, and_ones3, and_ones5, and_ones8]
  tauto

theorem code_0 : 0#32 = commandWord 0 0 0 0 := by decide
theorem code_1 : 1#32 = commandWord 0 0 0 1 := by decide
theorem code_2 : 2#32 = commandWord 0 0 0 2 := by decide
theorem code_3 : 3#32 = commandWord 0 0 0 3 := by decide
theorem code_4 : 4#32 = commandWord 0 0 0 4 := by decide
theorem code_5 : 5#32 = commandWord 0 0 0 5 := by decide
theorem code_6 : 6#32 = commandWord 0 0 0 6 := by decide
theorem code_7 : 7#32 = commandWord 0 0 0 7 := by decide
theorem code_8 : 8#32 = commandWord 0 0 0 8 := by decide
theorem code_9 : 9#32 = commandWord 0 0 0 9 := by decide
theorem code_10 : 10#32 = commandWord 0 0 0 10 := by decide
theorem code_11 : 11#32 = commandWord 0 0 0 11 := by decide
theorem code_12 : 12#32 = commandWord 0 0 0 12 := by decide
theorem code_13 : 13#32 = commandWord 0 0 0 13 := by decide
theorem code_14 : 14#32 = commandWord 0 0 0 14 := by decide
theorem code_15 : 15#32 = commandWord 0 0 0 15 := by decide

/-- `decode` as conditions on the fields: R103's rows, in their order. -/
theorem decode_eq_fields (w : Word) : decode w =
    if opField w = 0 ∧ rsv0Field w = 0 ∧ rsv1Field w = 0 ∧ a8Field w = 0 ∧ d8Field w = 0 ∧ lenField w = 0 then .ok .nop
    else
    if opField w = 1 ∧ rsv0Field w = 0 ∧ rsv1Field w = 0 ∧ a8Field w = 0 ∧ d8Field w = 0 ∧ lenField w = 0 then .ok .baudCalc
    else
    if opField w = 2 ∧ rsv0Field w = 0 ∧ rsv1Field w = 0 ∧ a8Field w = 0 ∧ d8Field w = 0 ∧ lenField w = 0 then .ok .uartInit
    else
    if opField w = 3 ∧ rsv0Field w = 0 ∧ rsv1Field w = 0 ∧ a8Field w = 0 ∧ lenField w = 0 then .ok (.uartWrite (d8Field w))
    else
    if opField w = 4 ∧ rsv0Field w = 0 ∧ rsv1Field w = 0 ∧ a8Field w = 0 ∧ d8Field w = 0 then .ok (.uartRead (lenField w).toNat)
    else
    if opField w = 5 ∧ rsv0Field w = 0 ∧ rsv1Field w = 0 ∧ lenField w = 0 then .ok (.i2cWrite (a8Field w) (d8Field w))
    else
    if opField w = 6 ∧ rsv0Field w = 0 ∧ rsv1Field w = 0 ∧ d8Field w = 0 then .ok (.i2cRead (a8Field w) (lenField w).toNat)
    else
    if opField w = 7 ∧ rsv0Field w = 0 ∧ rsv1Field w = 0 ∧ lenField w = 0 then .ok (.spiWrite (a8Field w) (d8Field w))
    else
    if opField w = 8 ∧ rsv0Field w = 0 ∧ rsv1Field w = 0 ∧ d8Field w = 0 then .ok (.spiRead (a8Field w) (lenField w).toNat)
    else
    if opField w = 9 ∧ rsv0Field w = 0 ∧ rsv1Field w = 0 ∧ d8Field w = 0 ∧ lenField w = 0 then .ok (.spiCmd (a8Field w))
    else
    if opField w = 10 ∧ rsv0Field w = 0 ∧ rsv1Field w = 0 ∧ d8Field w = 0 then .ok (.spiCmdr (a8Field w) (lenField w).toNat)
    else
    if opField w = 11 ∧ rsv0Field w = 0 ∧ rsv1Field w = 0 ∧ d8Field w = 0 ∧ lenField w = 0 then .ok (.asm16 (a8Field w).toNat)
    else
    if opField w = 12 ∧ rsv0Field w = 0 ∧ rsv1Field w = 0 ∧ a8Field w = 0 ∧ d8Field w = 0 ∧ lenField w = 0 then .ok .asmSample
    else
    if opField w = 13 ∧ rsv0Field w = 0 ∧ rsv1Field w = 0 ∧ a8Field w = 0 ∧ d8Field w = 0 ∧ lenField w = 0 then .ok .pollInit
    else
    if opField w = 14 ∧ rsv0Field w = 0 ∧ rsv1Field w = 0 ∧ a8Field w = 0 ∧ d8Field w = 0 ∧ lenField w = 0 then .ok .pollStep
    else
    if opField w = 15 ∧ rsv0Field w = 0 ∧ rsv1Field w = 0 ∧ a8Field w = 0 ∧ d8Field w = 0 ∧ lenField w = 0 then .ok .pollRun
    else
    .error (illegalReason w) := by
  have elim : decode w = (rows.find? fun r => w &&& r.mask == r.code).elim (.error (illegalReason w))
      fun r => .ok (r.build w) := by
    unfold decode
    split <;> simp [*]
  have find (r : Row) (rs : List Row) :
      ((r :: rs).find? fun r => w &&& r.mask == r.code).elim (Except.error (illegalReason w)) (fun r => .ok (r.build w)) =
      if (w &&& r.mask == r.code) = true then .ok (r.build w)
      else (rs.find? fun r => w &&& r.mask == r.code).elim (.error (illegalReason w)) fun r => .ok (r.build w) := by
    rw [List.find?_cons]
    cases w &&& r.mask == r.code <;> rfl
  rw [elim]
  unfold rows
  simp only [BitVec.ofNat_eq_ofNat, find, List.find?_nil, Option.elim_none, code_0, code_1, code_2, code_3, code_4, code_5, code_6, code_7, code_8, code_9,
    code_10, code_11, code_12, code_13, code_14, code_15, selects_plain, selects_d8, selects_len, selects_a8d8,
    selects_a8len, selects_a8, decide_eq_true_eq]

end Sys2Proof
end

