-- ==== Sys2Proof/Laws/State.lean ====
section
/-! SUPPORT. One lemma per field per update: what each operation of Ops writes, and that it leaves every other field. -/

namespace Sys2Proof.Machine

@[simp] theorem record_cur (e : Event) (s : State) : (record e s).cur = s.cur := rfl
@[simp] theorem record_busy (e : Event) (s : State) : (record e s).busy = s.busy := rfl
@[simp] theorem record_done (e : Event) (s : State) : (record e s).done = s.done := rfl
@[simp] theorem record_reject (e : Event) (s : State) : (record e s).reject = s.reject := rfl
@[simp] theorem record_cs (e : Event) (s : State) : (record e s).cs = s.cs := rfl
@[simp] theorem record_held (e : Event) (s : State) : (record e s).held = s.held := rfl
@[simp] theorem record_result (e : Event) (s : State) : (record e s).result = s.result := rfl
@[simp] theorem record_i2cDev (e : Event) (s : State) : (record e s).i2cDev = s.i2cDev := rfl
@[simp] theorem record_maddr (e : Event) (s : State) : (record e s).maddr = s.maddr := rfl
@[simp] theorem record_clkHz (e : Event) (s : State) : (record e s).clkHz = s.clkHz := rfl
@[simp] theorem record_baud (e : Event) (s : State) : (record e s).baud = s.baud := rfl
@[simp] theorem record_ibrd (e : Event) (s : State) : (record e s).ibrd = s.ibrd := rfl
@[simp] theorem record_fbrd (e : Event) (s : State) : (record e s).fbrd = s.fbrd := rfl
@[simp] theorem record_uartLcr (e : Event) (s : State) : (record e s).uartLcr = s.uartLcr := rfl
@[simp] theorem record_uartCr (e : Event) (s : State) : (record e s).uartCr = s.uartCr := rfl
@[simp] theorem record_pollMask (e : Event) (s : State) : (record e s).pollMask = s.pollMask := rfl
@[simp] theorem record_pollMatch (e : Event) (s : State) : (record e s).pollMatch = s.pollMatch := rfl
@[simp] theorem record_pollMax (e : Event) (s : State) : (record e s).pollMax = s.pollMax := rfl
@[simp] theorem record_pollTxn (e : Event) (s : State) : (record e s).pollTxn = s.pollTxn := rfl
@[simp] theorem record_pollLast (e : Event) (s : State) : (record e s).pollLast = s.pollLast := rfl
@[simp] theorem record_pollState (e : Event) (s : State) : (record e s).pollState = s.pollState := rfl
@[simp] theorem record_pollAttempts (e : Event) (s : State) : (record e s).pollAttempts = s.pollAttempts := rfl
@[simp] theorem record_asmv (e : Event) (s : State) : (record e s).asmv = s.asmv := rfl
@[simp] theorem record_ch (e : Event) (s : State) : (record e s).ch = s.ch := rfl
@[simp] theorem record_rxbuf (e : Event) (s : State) : (record e s).rxbuf = s.rxbuf := rfl
@[simp] theorem record_phase (e : Event) (s : State) : (record e s).phase = s.phase := rfl
@[simp] theorem record_params (e : Event) (s : State) : (record e s).params = s.params := rfl
@[simp] theorem record_agenda (e : Event) (s : State) : (record e s).agenda = s.agenda := rfl
@[simp] theorem record_i2cReplies (e : Event) (s : State) : (record e s).i2cReplies = s.i2cReplies := rfl
@[simp] theorem record_spiReplies (e : Event) (s : State) : (record e s).spiReplies = s.spiReplies := rfl
@[simp] theorem record_uartReplies (e : Event) (s : State) : (record e s).uartReplies = s.uartReplies := rfl
@[simp] theorem record_drawn (e : Event) (s : State) : (record e s).drawn = s.drawn := rfl
@[simp] theorem record_history (e : Event) (s : State) : (record e s).history = s.history ++ [e] := rfl

@[simp] theorem goto_cur (p : Phase) (s : State) : (goto p s).cur = s.cur := rfl
@[simp] theorem goto_busy (p : Phase) (s : State) : (goto p s).busy = s.busy := rfl
@[simp] theorem goto_done (p : Phase) (s : State) : (goto p s).done = s.done := rfl
@[simp] theorem goto_reject (p : Phase) (s : State) : (goto p s).reject = s.reject := rfl
@[simp] theorem goto_cs (p : Phase) (s : State) : (goto p s).cs = s.cs := rfl
@[simp] theorem goto_held (p : Phase) (s : State) : (goto p s).held = s.held := rfl
@[simp] theorem goto_result (p : Phase) (s : State) : (goto p s).result = s.result := rfl
@[simp] theorem goto_i2cDev (p : Phase) (s : State) : (goto p s).i2cDev = s.i2cDev := rfl
@[simp] theorem goto_maddr (p : Phase) (s : State) : (goto p s).maddr = s.maddr := rfl
@[simp] theorem goto_clkHz (p : Phase) (s : State) : (goto p s).clkHz = s.clkHz := rfl
@[simp] theorem goto_baud (p : Phase) (s : State) : (goto p s).baud = s.baud := rfl
@[simp] theorem goto_ibrd (p : Phase) (s : State) : (goto p s).ibrd = s.ibrd := rfl
@[simp] theorem goto_fbrd (p : Phase) (s : State) : (goto p s).fbrd = s.fbrd := rfl
@[simp] theorem goto_uartLcr (p : Phase) (s : State) : (goto p s).uartLcr = s.uartLcr := rfl
@[simp] theorem goto_uartCr (p : Phase) (s : State) : (goto p s).uartCr = s.uartCr := rfl
@[simp] theorem goto_pollMask (p : Phase) (s : State) : (goto p s).pollMask = s.pollMask := rfl
@[simp] theorem goto_pollMatch (p : Phase) (s : State) : (goto p s).pollMatch = s.pollMatch := rfl
@[simp] theorem goto_pollMax (p : Phase) (s : State) : (goto p s).pollMax = s.pollMax := rfl
@[simp] theorem goto_pollTxn (p : Phase) (s : State) : (goto p s).pollTxn = s.pollTxn := rfl
@[simp] theorem goto_pollLast (p : Phase) (s : State) : (goto p s).pollLast = s.pollLast := rfl
@[simp] theorem goto_pollState (p : Phase) (s : State) : (goto p s).pollState = s.pollState := rfl
@[simp] theorem goto_pollAttempts (p : Phase) (s : State) : (goto p s).pollAttempts = s.pollAttempts := rfl
@[simp] theorem goto_asmv (p : Phase) (s : State) : (goto p s).asmv = s.asmv := rfl
@[simp] theorem goto_ch (p : Phase) (s : State) : (goto p s).ch = s.ch := rfl
@[simp] theorem goto_rxbuf (p : Phase) (s : State) : (goto p s).rxbuf = s.rxbuf := rfl
@[simp] theorem goto_phase (p : Phase) (s : State) : (goto p s).phase = p := rfl
@[simp] theorem goto_params (p : Phase) (s : State) : (goto p s).params = s.params := rfl
@[simp] theorem goto_agenda (p : Phase) (s : State) : (goto p s).agenda = s.agenda := rfl
@[simp] theorem goto_i2cReplies (p : Phase) (s : State) : (goto p s).i2cReplies = s.i2cReplies := rfl
@[simp] theorem goto_spiReplies (p : Phase) (s : State) : (goto p s).spiReplies = s.spiReplies := rfl
@[simp] theorem goto_uartReplies (p : Phase) (s : State) : (goto p s).uartReplies = s.uartReplies := rfl
@[simp] theorem goto_drawn (p : Phase) (s : State) : (goto p s).drawn = s.drawn := rfl
@[simp] theorem goto_history (p : Phase) (s : State) : (goto p s).history = s.history := rfl

@[simp] theorem accept_cur (w : Word) (s : State) : (accept w s).cur = w := rfl
@[simp] theorem accept_busy (w : Word) (s : State) : (accept w s).busy = true := rfl
@[simp] theorem accept_done (w : Word) (s : State) : (accept w s).done = false := rfl
@[simp] theorem accept_reject (w : Word) (s : State) : (accept w s).reject = false := rfl
@[simp] theorem accept_cs (w : Word) (s : State) : (accept w s).cs = s.cs := rfl
@[simp] theorem accept_held (w : Word) (s : State) : (accept w s).held = s.held := rfl
@[simp] theorem accept_result (w : Word) (s : State) : (accept w s).result = s.result := rfl
@[simp] theorem accept_i2cDev (w : Word) (s : State) : (accept w s).i2cDev = s.i2cDev := rfl
@[simp] theorem accept_maddr (w : Word) (s : State) : (accept w s).maddr = s.maddr := rfl
@[simp] theorem accept_clkHz (w : Word) (s : State) : (accept w s).clkHz = s.clkHz := rfl
@[simp] theorem accept_baud (w : Word) (s : State) : (accept w s).baud = s.baud := rfl
@[simp] theorem accept_ibrd (w : Word) (s : State) : (accept w s).ibrd = s.ibrd := rfl
@[simp] theorem accept_fbrd (w : Word) (s : State) : (accept w s).fbrd = s.fbrd := rfl
@[simp] theorem accept_uartLcr (w : Word) (s : State) : (accept w s).uartLcr = s.uartLcr := rfl
@[simp] theorem accept_uartCr (w : Word) (s : State) : (accept w s).uartCr = s.uartCr := rfl
@[simp] theorem accept_pollMask (w : Word) (s : State) : (accept w s).pollMask = s.pollMask := rfl
@[simp] theorem accept_pollMatch (w : Word) (s : State) : (accept w s).pollMatch = s.pollMatch := rfl
@[simp] theorem accept_pollMax (w : Word) (s : State) : (accept w s).pollMax = s.pollMax := rfl
@[simp] theorem accept_pollTxn (w : Word) (s : State) : (accept w s).pollTxn = s.pollTxn := rfl
@[simp] theorem accept_pollLast (w : Word) (s : State) : (accept w s).pollLast = s.pollLast := rfl
@[simp] theorem accept_pollState (w : Word) (s : State) : (accept w s).pollState = s.pollState := rfl
@[simp] theorem accept_pollAttempts (w : Word) (s : State) : (accept w s).pollAttempts = s.pollAttempts := rfl
@[simp] theorem accept_asmv (w : Word) (s : State) : (accept w s).asmv = s.asmv := rfl
@[simp] theorem accept_ch (w : Word) (s : State) : (accept w s).ch = s.ch := rfl
@[simp] theorem accept_rxbuf (w : Word) (s : State) : (accept w s).rxbuf = s.rxbuf := rfl
@[simp] theorem accept_phase (w : Word) (s : State) : (accept w s).phase = .start := rfl
@[simp] theorem accept_params (w : Word) (s : State) : (accept w s).params = s.params := rfl
@[simp] theorem accept_agenda (w : Word) (s : State) : (accept w s).agenda = s.agenda := rfl
@[simp] theorem accept_i2cReplies (w : Word) (s : State) : (accept w s).i2cReplies = s.i2cReplies := rfl
@[simp] theorem accept_spiReplies (w : Word) (s : State) : (accept w s).spiReplies = s.spiReplies := rfl
@[simp] theorem accept_uartReplies (w : Word) (s : State) : (accept w s).uartReplies = s.uartReplies := rfl
@[simp] theorem accept_drawn (w : Word) (s : State) : (accept w s).drawn = s.drawn := rfl
@[simp] theorem accept_history (w : Word) (s : State) : (accept w s).history = s.history := rfl

@[simp] theorem complete_cur (r : Result) (s : State) : (complete r s).cur = s.cur := rfl
@[simp] theorem complete_busy (r : Result) (s : State) : (complete r s).busy = false := rfl
@[simp] theorem complete_done (r : Result) (s : State) : (complete r s).done = true := rfl
@[simp] theorem complete_reject (r : Result) (s : State) : (complete r s).reject = s.reject := rfl
@[simp] theorem complete_cs (r : Result) (s : State) : (complete r s).cs = s.cs := rfl
@[simp] theorem complete_held (r : Result) (s : State) : (complete r s).held = s.held := rfl
@[simp] theorem complete_result (r : Result) (s : State) : (complete r s).result = r := rfl
@[simp] theorem complete_i2cDev (r : Result) (s : State) : (complete r s).i2cDev = s.i2cDev := rfl
@[simp] theorem complete_maddr (r : Result) (s : State) : (complete r s).maddr = s.maddr := rfl
@[simp] theorem complete_clkHz (r : Result) (s : State) : (complete r s).clkHz = s.clkHz := rfl
@[simp] theorem complete_baud (r : Result) (s : State) : (complete r s).baud = s.baud := rfl
@[simp] theorem complete_ibrd (r : Result) (s : State) : (complete r s).ibrd = s.ibrd := rfl
@[simp] theorem complete_fbrd (r : Result) (s : State) : (complete r s).fbrd = s.fbrd := rfl
@[simp] theorem complete_uartLcr (r : Result) (s : State) : (complete r s).uartLcr = s.uartLcr := rfl
@[simp] theorem complete_uartCr (r : Result) (s : State) : (complete r s).uartCr = s.uartCr := rfl
@[simp] theorem complete_pollMask (r : Result) (s : State) : (complete r s).pollMask = s.pollMask := rfl
@[simp] theorem complete_pollMatch (r : Result) (s : State) : (complete r s).pollMatch = s.pollMatch := rfl
@[simp] theorem complete_pollMax (r : Result) (s : State) : (complete r s).pollMax = s.pollMax := rfl
@[simp] theorem complete_pollTxn (r : Result) (s : State) : (complete r s).pollTxn = s.pollTxn := rfl
@[simp] theorem complete_pollLast (r : Result) (s : State) : (complete r s).pollLast = s.pollLast := rfl
@[simp] theorem complete_pollState (r : Result) (s : State) : (complete r s).pollState = s.pollState := rfl
@[simp] theorem complete_pollAttempts (r : Result) (s : State) : (complete r s).pollAttempts = s.pollAttempts := rfl
@[simp] theorem complete_asmv (r : Result) (s : State) : (complete r s).asmv = s.asmv := rfl
@[simp] theorem complete_ch (r : Result) (s : State) : (complete r s).ch = s.ch := rfl
@[simp] theorem complete_rxbuf (r : Result) (s : State) : (complete r s).rxbuf = s.rxbuf := rfl
@[simp] theorem complete_phase (r : Result) (s : State) : (complete r s).phase = .idle := rfl
@[simp] theorem complete_params (r : Result) (s : State) : (complete r s).params = s.params := rfl
@[simp] theorem complete_agenda (r : Result) (s : State) : (complete r s).agenda = s.agenda := rfl
@[simp] theorem complete_i2cReplies (r : Result) (s : State) : (complete r s).i2cReplies = s.i2cReplies := rfl
@[simp] theorem complete_spiReplies (r : Result) (s : State) : (complete r s).spiReplies = s.spiReplies := rfl
@[simp] theorem complete_uartReplies (r : Result) (s : State) : (complete r s).uartReplies = s.uartReplies := rfl
@[simp] theorem complete_drawn (r : Result) (s : State) : (complete r s).drawn = s.drawn := rfl
@[simp] theorem complete_history (r : Result) (s : State) : (complete r s).history = s.history := rfl

@[simp] theorem storeRx_cur (i : Nat) (b : Byte) (s : State) : (storeRx i b s).cur = s.cur := rfl
@[simp] theorem storeRx_busy (i : Nat) (b : Byte) (s : State) : (storeRx i b s).busy = s.busy := rfl
@[simp] theorem storeRx_done (i : Nat) (b : Byte) (s : State) : (storeRx i b s).done = s.done := rfl
@[simp] theorem storeRx_reject (i : Nat) (b : Byte) (s : State) : (storeRx i b s).reject = s.reject := rfl
@[simp] theorem storeRx_cs (i : Nat) (b : Byte) (s : State) : (storeRx i b s).cs = s.cs := rfl
@[simp] theorem storeRx_held (i : Nat) (b : Byte) (s : State) : (storeRx i b s).held = s.held := rfl
@[simp] theorem storeRx_result (i : Nat) (b : Byte) (s : State) : (storeRx i b s).result = s.result := rfl
@[simp] theorem storeRx_i2cDev (i : Nat) (b : Byte) (s : State) : (storeRx i b s).i2cDev = s.i2cDev := rfl
@[simp] theorem storeRx_maddr (i : Nat) (b : Byte) (s : State) : (storeRx i b s).maddr = s.maddr := rfl
@[simp] theorem storeRx_clkHz (i : Nat) (b : Byte) (s : State) : (storeRx i b s).clkHz = s.clkHz := rfl
@[simp] theorem storeRx_baud (i : Nat) (b : Byte) (s : State) : (storeRx i b s).baud = s.baud := rfl
@[simp] theorem storeRx_ibrd (i : Nat) (b : Byte) (s : State) : (storeRx i b s).ibrd = s.ibrd := rfl
@[simp] theorem storeRx_fbrd (i : Nat) (b : Byte) (s : State) : (storeRx i b s).fbrd = s.fbrd := rfl
@[simp] theorem storeRx_uartLcr (i : Nat) (b : Byte) (s : State) : (storeRx i b s).uartLcr = s.uartLcr := rfl
@[simp] theorem storeRx_uartCr (i : Nat) (b : Byte) (s : State) : (storeRx i b s).uartCr = s.uartCr := rfl
@[simp] theorem storeRx_pollMask (i : Nat) (b : Byte) (s : State) : (storeRx i b s).pollMask = s.pollMask := rfl
@[simp] theorem storeRx_pollMatch (i : Nat) (b : Byte) (s : State) : (storeRx i b s).pollMatch = s.pollMatch := rfl
@[simp] theorem storeRx_pollMax (i : Nat) (b : Byte) (s : State) : (storeRx i b s).pollMax = s.pollMax := rfl
@[simp] theorem storeRx_pollTxn (i : Nat) (b : Byte) (s : State) : (storeRx i b s).pollTxn = s.pollTxn := rfl
@[simp] theorem storeRx_pollLast (i : Nat) (b : Byte) (s : State) : (storeRx i b s).pollLast = s.pollLast := rfl
@[simp] theorem storeRx_pollState (i : Nat) (b : Byte) (s : State) : (storeRx i b s).pollState = s.pollState := rfl
@[simp] theorem storeRx_pollAttempts (i : Nat) (b : Byte) (s : State) : (storeRx i b s).pollAttempts = s.pollAttempts := rfl
@[simp] theorem storeRx_asmv (i : Nat) (b : Byte) (s : State) : (storeRx i b s).asmv = s.asmv := rfl
@[simp] theorem storeRx_ch (i : Nat) (b : Byte) (s : State) : (storeRx i b s).ch = s.ch := rfl
@[simp] theorem storeRx_rxbuf (i : Nat) (b : Byte) (s : State) : (storeRx i b s).rxbuf = s.rxbuf.setIfInBounds i b := rfl
@[simp] theorem storeRx_phase (i : Nat) (b : Byte) (s : State) : (storeRx i b s).phase = s.phase := rfl
@[simp] theorem storeRx_params (i : Nat) (b : Byte) (s : State) : (storeRx i b s).params = s.params := rfl
@[simp] theorem storeRx_agenda (i : Nat) (b : Byte) (s : State) : (storeRx i b s).agenda = s.agenda := rfl
@[simp] theorem storeRx_i2cReplies (i : Nat) (b : Byte) (s : State) : (storeRx i b s).i2cReplies = s.i2cReplies := rfl
@[simp] theorem storeRx_spiReplies (i : Nat) (b : Byte) (s : State) : (storeRx i b s).spiReplies = s.spiReplies := rfl
@[simp] theorem storeRx_uartReplies (i : Nat) (b : Byte) (s : State) : (storeRx i b s).uartReplies = s.uartReplies := rfl
@[simp] theorem storeRx_drawn (i : Nat) (b : Byte) (s : State) : (storeRx i b s).drawn = s.drawn := rfl
@[simp] theorem storeRx_history (i : Nat) (b : Byte) (s : State) : (storeRx i b s).history = s.history := rfl

@[simp] theorem setDivisor_cur (i f : Nat) (s : State) : (setDivisor i f s).cur = s.cur := rfl
@[simp] theorem setDivisor_busy (i f : Nat) (s : State) : (setDivisor i f s).busy = s.busy := rfl
@[simp] theorem setDivisor_done (i f : Nat) (s : State) : (setDivisor i f s).done = s.done := rfl
@[simp] theorem setDivisor_reject (i f : Nat) (s : State) : (setDivisor i f s).reject = s.reject := rfl
@[simp] theorem setDivisor_cs (i f : Nat) (s : State) : (setDivisor i f s).cs = s.cs := rfl
@[simp] theorem setDivisor_held (i f : Nat) (s : State) : (setDivisor i f s).held = s.held := rfl
@[simp] theorem setDivisor_result (i f : Nat) (s : State) : (setDivisor i f s).result = s.result := rfl
@[simp] theorem setDivisor_i2cDev (i f : Nat) (s : State) : (setDivisor i f s).i2cDev = s.i2cDev := rfl
@[simp] theorem setDivisor_maddr (i f : Nat) (s : State) : (setDivisor i f s).maddr = s.maddr := rfl
@[simp] theorem setDivisor_clkHz (i f : Nat) (s : State) : (setDivisor i f s).clkHz = s.clkHz := rfl
@[simp] theorem setDivisor_baud (i f : Nat) (s : State) : (setDivisor i f s).baud = s.baud := rfl
@[simp] theorem setDivisor_ibrd (i f : Nat) (s : State) : (setDivisor i f s).ibrd = BitVec.ofNat 16 i := rfl
@[simp] theorem setDivisor_fbrd (i f : Nat) (s : State) : (setDivisor i f s).fbrd = BitVec.ofNat 6 f := rfl
@[simp] theorem setDivisor_uartLcr (i f : Nat) (s : State) : (setDivisor i f s).uartLcr = s.uartLcr := rfl
@[simp] theorem setDivisor_uartCr (i f : Nat) (s : State) : (setDivisor i f s).uartCr = s.uartCr := rfl
@[simp] theorem setDivisor_pollMask (i f : Nat) (s : State) : (setDivisor i f s).pollMask = s.pollMask := rfl
@[simp] theorem setDivisor_pollMatch (i f : Nat) (s : State) : (setDivisor i f s).pollMatch = s.pollMatch := rfl
@[simp] theorem setDivisor_pollMax (i f : Nat) (s : State) : (setDivisor i f s).pollMax = s.pollMax := rfl
@[simp] theorem setDivisor_pollTxn (i f : Nat) (s : State) : (setDivisor i f s).pollTxn = s.pollTxn := rfl
@[simp] theorem setDivisor_pollLast (i f : Nat) (s : State) : (setDivisor i f s).pollLast = s.pollLast := rfl
@[simp] theorem setDivisor_pollState (i f : Nat) (s : State) : (setDivisor i f s).pollState = s.pollState := rfl
@[simp] theorem setDivisor_pollAttempts (i f : Nat) (s : State) : (setDivisor i f s).pollAttempts = s.pollAttempts := rfl
@[simp] theorem setDivisor_asmv (i f : Nat) (s : State) : (setDivisor i f s).asmv = s.asmv := rfl
@[simp] theorem setDivisor_ch (i f : Nat) (s : State) : (setDivisor i f s).ch = s.ch := rfl
@[simp] theorem setDivisor_rxbuf (i f : Nat) (s : State) : (setDivisor i f s).rxbuf = s.rxbuf := rfl
@[simp] theorem setDivisor_phase (i f : Nat) (s : State) : (setDivisor i f s).phase = s.phase := rfl
@[simp] theorem setDivisor_params (i f : Nat) (s : State) : (setDivisor i f s).params = s.params := rfl
@[simp] theorem setDivisor_agenda (i f : Nat) (s : State) : (setDivisor i f s).agenda = s.agenda := rfl
@[simp] theorem setDivisor_i2cReplies (i f : Nat) (s : State) : (setDivisor i f s).i2cReplies = s.i2cReplies := rfl
@[simp] theorem setDivisor_spiReplies (i f : Nat) (s : State) : (setDivisor i f s).spiReplies = s.spiReplies := rfl
@[simp] theorem setDivisor_uartReplies (i f : Nat) (s : State) : (setDivisor i f s).uartReplies = s.uartReplies := rfl
@[simp] theorem setDivisor_drawn (i f : Nat) (s : State) : (setDivisor i f s).drawn = s.drawn := rfl
@[simp] theorem setDivisor_history (i f : Nat) (s : State) : (setDivisor i f s).history = s.history := rfl

@[simp] theorem armPoll_cur (s : State) : (armPoll s).cur = s.cur := rfl
@[simp] theorem armPoll_busy (s : State) : (armPoll s).busy = s.busy := rfl
@[simp] theorem armPoll_done (s : State) : (armPoll s).done = s.done := rfl
@[simp] theorem armPoll_reject (s : State) : (armPoll s).reject = s.reject := rfl
@[simp] theorem armPoll_cs (s : State) : (armPoll s).cs = s.cs := rfl
@[simp] theorem armPoll_held (s : State) : (armPoll s).held = s.held := rfl
@[simp] theorem armPoll_result (s : State) : (armPoll s).result = s.result := rfl
@[simp] theorem armPoll_i2cDev (s : State) : (armPoll s).i2cDev = s.i2cDev := rfl
@[simp] theorem armPoll_maddr (s : State) : (armPoll s).maddr = s.maddr := rfl
@[simp] theorem armPoll_clkHz (s : State) : (armPoll s).clkHz = s.clkHz := rfl
@[simp] theorem armPoll_baud (s : State) : (armPoll s).baud = s.baud := rfl
@[simp] theorem armPoll_ibrd (s : State) : (armPoll s).ibrd = s.ibrd := rfl
@[simp] theorem armPoll_fbrd (s : State) : (armPoll s).fbrd = s.fbrd := rfl
@[simp] theorem armPoll_uartLcr (s : State) : (armPoll s).uartLcr = s.uartLcr := rfl
@[simp] theorem armPoll_uartCr (s : State) : (armPoll s).uartCr = s.uartCr := rfl
@[simp] theorem armPoll_pollMask (s : State) : (armPoll s).pollMask = s.pollMask := rfl
@[simp] theorem armPoll_pollMatch (s : State) : (armPoll s).pollMatch = s.pollMatch := rfl
@[simp] theorem armPoll_pollMax (s : State) : (armPoll s).pollMax = s.pollMax := rfl
@[simp] theorem armPoll_pollTxn (s : State) : (armPoll s).pollTxn = s.pollTxn := rfl
@[simp] theorem armPoll_pollLast (s : State) : (armPoll s).pollLast = 0 := rfl
@[simp] theorem armPoll_pollState (s : State) : (armPoll s).pollState = .idle := rfl
@[simp] theorem armPoll_pollAttempts (s : State) : (armPoll s).pollAttempts = 0 := rfl
@[simp] theorem armPoll_asmv (s : State) : (armPoll s).asmv = s.asmv := rfl
@[simp] theorem armPoll_ch (s : State) : (armPoll s).ch = s.ch := rfl
@[simp] theorem armPoll_rxbuf (s : State) : (armPoll s).rxbuf = s.rxbuf := rfl
@[simp] theorem armPoll_phase (s : State) : (armPoll s).phase = s.phase := rfl
@[simp] theorem armPoll_params (s : State) : (armPoll s).params = s.params := rfl
@[simp] theorem armPoll_agenda (s : State) : (armPoll s).agenda = s.agenda := rfl
@[simp] theorem armPoll_i2cReplies (s : State) : (armPoll s).i2cReplies = s.i2cReplies := rfl
@[simp] theorem armPoll_spiReplies (s : State) : (armPoll s).spiReplies = s.spiReplies := rfl
@[simp] theorem armPoll_uartReplies (s : State) : (armPoll s).uartReplies = s.uartReplies := rfl
@[simp] theorem armPoll_drawn (s : State) : (armPoll s).drawn = s.drawn := rfl
@[simp] theorem armPoll_history (s : State) : (armPoll s).history = s.history := rfl

@[simp] theorem resetEvent_cur (s : State) : (resetEvent s).cur = State.reset.cur := rfl
@[simp] theorem resetEvent_busy (s : State) : (resetEvent s).busy = State.reset.busy := rfl
@[simp] theorem resetEvent_done (s : State) : (resetEvent s).done = State.reset.done := rfl
@[simp] theorem resetEvent_reject (s : State) : (resetEvent s).reject = State.reset.reject := rfl
@[simp] theorem resetEvent_cs (s : State) : (resetEvent s).cs = State.reset.cs := rfl
@[simp] theorem resetEvent_held (s : State) : (resetEvent s).held = State.reset.held := rfl
@[simp] theorem resetEvent_result (s : State) : (resetEvent s).result = State.reset.result := rfl
@[simp] theorem resetEvent_i2cDev (s : State) : (resetEvent s).i2cDev = State.reset.i2cDev := rfl
@[simp] theorem resetEvent_maddr (s : State) : (resetEvent s).maddr = State.reset.maddr := rfl
@[simp] theorem resetEvent_clkHz (s : State) : (resetEvent s).clkHz = State.reset.clkHz := rfl
@[simp] theorem resetEvent_baud (s : State) : (resetEvent s).baud = State.reset.baud := rfl
@[simp] theorem resetEvent_ibrd (s : State) : (resetEvent s).ibrd = State.reset.ibrd := rfl
@[simp] theorem resetEvent_fbrd (s : State) : (resetEvent s).fbrd = State.reset.fbrd := rfl
@[simp] theorem resetEvent_uartLcr (s : State) : (resetEvent s).uartLcr = State.reset.uartLcr := rfl
@[simp] theorem resetEvent_uartCr (s : State) : (resetEvent s).uartCr = State.reset.uartCr := rfl
@[simp] theorem resetEvent_pollMask (s : State) : (resetEvent s).pollMask = State.reset.pollMask := rfl
@[simp] theorem resetEvent_pollMatch (s : State) : (resetEvent s).pollMatch = State.reset.pollMatch := rfl
@[simp] theorem resetEvent_pollMax (s : State) : (resetEvent s).pollMax = State.reset.pollMax := rfl
@[simp] theorem resetEvent_pollTxn (s : State) : (resetEvent s).pollTxn = State.reset.pollTxn := rfl
@[simp] theorem resetEvent_pollLast (s : State) : (resetEvent s).pollLast = State.reset.pollLast := rfl
@[simp] theorem resetEvent_pollState (s : State) : (resetEvent s).pollState = State.reset.pollState := rfl
@[simp] theorem resetEvent_pollAttempts (s : State) : (resetEvent s).pollAttempts = State.reset.pollAttempts := rfl
@[simp] theorem resetEvent_asmv (s : State) : (resetEvent s).asmv = State.reset.asmv := rfl
@[simp] theorem resetEvent_ch (s : State) : (resetEvent s).ch = State.reset.ch := rfl
@[simp] theorem resetEvent_rxbuf (s : State) : (resetEvent s).rxbuf = State.reset.rxbuf := rfl
@[simp] theorem resetEvent_phase (s : State) : (resetEvent s).phase = State.reset.phase := rfl
@[simp] theorem resetEvent_params (s : State) : (resetEvent s).params = s.params := rfl
@[simp] theorem resetEvent_agenda (s : State) : (resetEvent s).agenda = s.agenda := rfl
@[simp] theorem resetEvent_i2cReplies (s : State) : (resetEvent s).i2cReplies = s.i2cReplies := rfl
@[simp] theorem resetEvent_spiReplies (s : State) : (resetEvent s).spiReplies = s.spiReplies := rfl
@[simp] theorem resetEvent_uartReplies (s : State) : (resetEvent s).uartReplies = s.uartReplies := rfl
@[simp] theorem resetEvent_drawn (s : State) : (resetEvent s).drawn = s.drawn := rfl
@[simp] theorem resetEvent_history (s : State) : (resetEvent s).history = s.history ++ [.reset] := rfl

@[simp] theorem setReplies_cur (b : Bus) (rs : List Reply) (s : State) : (setReplies b rs s).cur = s.cur := by
  cases b <;> rfl
@[simp] theorem setReplies_busy (b : Bus) (rs : List Reply) (s : State) : (setReplies b rs s).busy = s.busy := by
  cases b <;> rfl
@[simp] theorem setReplies_done (b : Bus) (rs : List Reply) (s : State) : (setReplies b rs s).done = s.done := by
  cases b <;> rfl
@[simp] theorem setReplies_reject (b : Bus) (rs : List Reply) (s : State) : (setReplies b rs s).reject = s.reject := by
  cases b <;> rfl
@[simp] theorem setReplies_cs (b : Bus) (rs : List Reply) (s : State) : (setReplies b rs s).cs = s.cs := by
  cases b <;> rfl
@[simp] theorem setReplies_held (b : Bus) (rs : List Reply) (s : State) : (setReplies b rs s).held = s.held := by
  cases b <;> rfl
@[simp] theorem setReplies_result (b : Bus) (rs : List Reply) (s : State) : (setReplies b rs s).result = s.result := by
  cases b <;> rfl
@[simp] theorem setReplies_i2cDev (b : Bus) (rs : List Reply) (s : State) : (setReplies b rs s).i2cDev = s.i2cDev := by
  cases b <;> rfl
@[simp] theorem setReplies_maddr (b : Bus) (rs : List Reply) (s : State) : (setReplies b rs s).maddr = s.maddr := by
  cases b <;> rfl
@[simp] theorem setReplies_clkHz (b : Bus) (rs : List Reply) (s : State) : (setReplies b rs s).clkHz = s.clkHz := by
  cases b <;> rfl
@[simp] theorem setReplies_baud (b : Bus) (rs : List Reply) (s : State) : (setReplies b rs s).baud = s.baud := by
  cases b <;> rfl
@[simp] theorem setReplies_ibrd (b : Bus) (rs : List Reply) (s : State) : (setReplies b rs s).ibrd = s.ibrd := by
  cases b <;> rfl
@[simp] theorem setReplies_fbrd (b : Bus) (rs : List Reply) (s : State) : (setReplies b rs s).fbrd = s.fbrd := by
  cases b <;> rfl
@[simp] theorem setReplies_uartLcr (b : Bus) (rs : List Reply) (s : State) : (setReplies b rs s).uartLcr = s.uartLcr := by
  cases b <;> rfl
@[simp] theorem setReplies_uartCr (b : Bus) (rs : List Reply) (s : State) : (setReplies b rs s).uartCr = s.uartCr := by
  cases b <;> rfl
@[simp] theorem setReplies_pollMask (b : Bus) (rs : List Reply) (s : State) : (setReplies b rs s).pollMask = s.pollMask := by
  cases b <;> rfl
@[simp] theorem setReplies_pollMatch (b : Bus) (rs : List Reply) (s : State) : (setReplies b rs s).pollMatch = s.pollMatch := by
  cases b <;> rfl
@[simp] theorem setReplies_pollMax (b : Bus) (rs : List Reply) (s : State) : (setReplies b rs s).pollMax = s.pollMax := by
  cases b <;> rfl
@[simp] theorem setReplies_pollTxn (b : Bus) (rs : List Reply) (s : State) : (setReplies b rs s).pollTxn = s.pollTxn := by
  cases b <;> rfl
@[simp] theorem setReplies_pollLast (b : Bus) (rs : List Reply) (s : State) : (setReplies b rs s).pollLast = s.pollLast := by
  cases b <;> rfl
@[simp] theorem setReplies_pollState (b : Bus) (rs : List Reply) (s : State) : (setReplies b rs s).pollState = s.pollState := by
  cases b <;> rfl
@[simp] theorem setReplies_pollAttempts (b : Bus) (rs : List Reply) (s : State) : (setReplies b rs s).pollAttempts = s.pollAttempts := by
  cases b <;> rfl
@[simp] theorem setReplies_asmv (b : Bus) (rs : List Reply) (s : State) : (setReplies b rs s).asmv = s.asmv := by
  cases b <;> rfl
@[simp] theorem setReplies_ch (b : Bus) (rs : List Reply) (s : State) : (setReplies b rs s).ch = s.ch := by
  cases b <;> rfl
@[simp] theorem setReplies_rxbuf (b : Bus) (rs : List Reply) (s : State) : (setReplies b rs s).rxbuf = s.rxbuf := by
  cases b <;> rfl
@[simp] theorem setReplies_phase (b : Bus) (rs : List Reply) (s : State) : (setReplies b rs s).phase = s.phase := by
  cases b <;> rfl
@[simp] theorem setReplies_params (b : Bus) (rs : List Reply) (s : State) : (setReplies b rs s).params = s.params := by
  cases b <;> rfl
@[simp] theorem setReplies_agenda (b : Bus) (rs : List Reply) (s : State) : (setReplies b rs s).agenda = s.agenda := by
  cases b <;> rfl
@[simp] theorem setReplies_drawn (b : Bus) (rs : List Reply) (s : State) : (setReplies b rs s).drawn = s.drawn := by
  cases b <;> rfl
@[simp] theorem setReplies_history (b : Bus) (rs : List Reply) (s : State) : (setReplies b rs s).history = s.history := by
  cases b <;> rfl

@[simp] theorem repliesOf_setReplies (b : Bus) (rs : List Reply) (s : State) : repliesOf b (setReplies b rs s) = rs := by
  cases b <;> rfl

theorem repliesOf_setReplies_other {b c : Bus} (h : c ≠ b) (rs : List Reply) (s : State) :
    repliesOf c (setReplies b rs s) = repliesOf c s := by
  cases b <;> cases c <;> first | rfl | exact absurd rfl h

@[simp] theorem popReply_cur (b : Bus) (s : State) : (popReply b s).cur = s.cur := by
  unfold popReply; split <;> simp
@[simp] theorem popReply_busy (b : Bus) (s : State) : (popReply b s).busy = s.busy := by
  unfold popReply; split <;> simp
@[simp] theorem popReply_done (b : Bus) (s : State) : (popReply b s).done = s.done := by
  unfold popReply; split <;> simp
@[simp] theorem popReply_reject (b : Bus) (s : State) : (popReply b s).reject = s.reject := by
  unfold popReply; split <;> simp
@[simp] theorem popReply_cs (b : Bus) (s : State) : (popReply b s).cs = s.cs := by
  unfold popReply; split <;> simp
@[simp] theorem popReply_held (b : Bus) (s : State) : (popReply b s).held = s.held := by
  unfold popReply; split <;> simp
@[simp] theorem popReply_result (b : Bus) (s : State) : (popReply b s).result = s.result := by
  unfold popReply; split <;> simp
@[simp] theorem popReply_i2cDev (b : Bus) (s : State) : (popReply b s).i2cDev = s.i2cDev := by
  unfold popReply; split <;> simp
@[simp] theorem popReply_maddr (b : Bus) (s : State) : (popReply b s).maddr = s.maddr := by
  unfold popReply; split <;> simp
@[simp] theorem popReply_clkHz (b : Bus) (s : State) : (popReply b s).clkHz = s.clkHz := by
  unfold popReply; split <;> simp
@[simp] theorem popReply_baud (b : Bus) (s : State) : (popReply b s).baud = s.baud := by
  unfold popReply; split <;> simp
@[simp] theorem popReply_ibrd (b : Bus) (s : State) : (popReply b s).ibrd = s.ibrd := by
  unfold popReply; split <;> simp
@[simp] theorem popReply_fbrd (b : Bus) (s : State) : (popReply b s).fbrd = s.fbrd := by
  unfold popReply; split <;> simp
@[simp] theorem popReply_uartLcr (b : Bus) (s : State) : (popReply b s).uartLcr = s.uartLcr := by
  unfold popReply; split <;> simp
@[simp] theorem popReply_uartCr (b : Bus) (s : State) : (popReply b s).uartCr = s.uartCr := by
  unfold popReply; split <;> simp
@[simp] theorem popReply_pollMask (b : Bus) (s : State) : (popReply b s).pollMask = s.pollMask := by
  unfold popReply; split <;> simp
@[simp] theorem popReply_pollMatch (b : Bus) (s : State) : (popReply b s).pollMatch = s.pollMatch := by
  unfold popReply; split <;> simp
@[simp] theorem popReply_pollMax (b : Bus) (s : State) : (popReply b s).pollMax = s.pollMax := by
  unfold popReply; split <;> simp
@[simp] theorem popReply_pollTxn (b : Bus) (s : State) : (popReply b s).pollTxn = s.pollTxn := by
  unfold popReply; split <;> simp
@[simp] theorem popReply_pollLast (b : Bus) (s : State) : (popReply b s).pollLast = s.pollLast := by
  unfold popReply; split <;> simp
@[simp] theorem popReply_pollState (b : Bus) (s : State) : (popReply b s).pollState = s.pollState := by
  unfold popReply; split <;> simp
@[simp] theorem popReply_pollAttempts (b : Bus) (s : State) : (popReply b s).pollAttempts = s.pollAttempts := by
  unfold popReply; split <;> simp
@[simp] theorem popReply_asmv (b : Bus) (s : State) : (popReply b s).asmv = s.asmv := by
  unfold popReply; split <;> simp
@[simp] theorem popReply_ch (b : Bus) (s : State) : (popReply b s).ch = s.ch := by
  unfold popReply; split <;> simp
@[simp] theorem popReply_rxbuf (b : Bus) (s : State) : (popReply b s).rxbuf = s.rxbuf := by
  unfold popReply; split <;> simp
@[simp] theorem popReply_phase (b : Bus) (s : State) : (popReply b s).phase = s.phase := by
  unfold popReply; split <;> simp
@[simp] theorem popReply_params (b : Bus) (s : State) : (popReply b s).params = s.params := by
  unfold popReply; split <;> simp
@[simp] theorem popReply_agenda (b : Bus) (s : State) : (popReply b s).agenda = s.agenda := by
  unfold popReply; split <;> simp
@[simp] theorem popReply_history (b : Bus) (s : State) : (popReply b s).history = s.history := by
  unfold popReply; split <;> simp

end Sys2Proof.Machine
end

