-- ==== Sys2Proof/Laws/Operands.lean ====
section
/-! SUPPORT. What the operand functions can answer: the divisor (R151, R152), the status transaction (R108, R251), and the
transition of the poller (R252). -/

namespace Sys2Proof.Machine

/-- A valid length is 1 to 16 (R107). -/
theorem lenValid_iff {len : Nat} : lenValid len = true ↔ 1 ≤ len ∧ len ≤ 16 := by
  unfold lenValid Config.lenMax
  rw [Bool.and_eq_true, decide_eq_true_iff, decide_eq_true_iff]

/-- All that `divisor` can answer (R151, R152). -/
theorem divisor_some {clk baud i f : Nat} (h : divisor clk baud = some (i, f)) :
    baud ≠ 0 ∧ i = divisorUnits clk baud / 64 ∧ f = divisorUnits clk baud % 64 ∧ 1 ≤ i ∧ i ≤ 65535 ∧
      (i = 65535 → f = 0) ∧ f < 64 := by
  simp only [divisor] at h
  split at h
  · simp at h
  · next hb =>
    split at h
    · next hv =>
      simp only [Option.some.injEq, Prod.mk.injEq] at h
      obtain ⟨rfl, rfl⟩ := h
      simp only [divisorValid, Config.ibrdMax, Bool.and_eq_true, decide_eq_true_eq, Bool.not_eq_true',
        Bool.and_eq_false_imp, beq_iff_eq, bne_eq_false_iff_eq] at hv
      exact ⟨hb, rfl, rfl, hv.1.1, of_decide_eq_true hv.1.2, hv.2, Nat.mod_lt _ (by decide)⟩
    · simp at h

/-- `divisor` refuses exactly a zero baud rate and an invalid result (R151). -/
theorem divisor_none {clk baud : Nat} :
    divisor clk baud = none ↔
      baud = 0 ∨ divisorValid (divisorUnits clk baud / 64) (divisorUnits clk baud % 64) = false := by
  simp only [divisor]
  split
  · simp_all
  · split <;> simp_all

/-- All that `statusTxn` can answer: a read command of length 1 (R108), and for I2C.READ a nonzero address (R251). -/
theorem statusTxn_some {s : State} {i : Instr} (h : statusTxn s = some i) :
    decode s.pollTxn = .ok i ∧
      ((∃ reg, i = .i2cRead reg 1 ∧ s.i2cDev ≠ 0) ∨ (∃ instr, i = .spiRead instr 1) ∨ (∃ instr, i = .spiCmdr instr 1) ∨
        i = .uartRead 1) := by
  unfold statusTxn at h
  split at h
  · next reg len hd =>
    split_ifs at h with hc
    simp only [Option.some.injEq] at h
    subst h
    exact ⟨hd, .inl ⟨reg, by rw [hc.1], hc.2⟩⟩
  · next instr len hd =>
    split_ifs at h with hc
    simp only [Option.some.injEq] at h
    subst h
    exact ⟨hd, .inr (.inl ⟨instr, by rw [hc]⟩)⟩
  · next instr len hd =>
    split_ifs at h with hc
    simp only [Option.some.injEq] at h
    subst h
    exact ⟨hd, .inr (.inr (.inl ⟨instr, by rw [hc]⟩))⟩
  · next len hd =>
    split_ifs at h with hc
    simp only [Option.some.injEq] at h
    subst h
    exact ⟨hd, .inr (.inr (.inr (by rw [hc])))⟩
  · simp at h

/-- The status transaction reads POLL_TXN and I2C_DEV alone. -/
theorem statusTxn_congr {s t : State} (h : s.pollTxn = t.pollTxn) (d : s.i2cDev = t.i2cDev) : statusTxn s = statusTxn t := by
  simp only [statusTxn, h, d]

theorem txnOk_iff {s : State} : txnOk s = true ↔ ∃ i, statusTxn s = some i := by
  simp [txnOk, Option.isSome_iff_exists]

/-- A terminal state is one of three (R42). -/
theorem terminal_iff {p : PollState} : terminal p = true ↔ p = .ready ∨ p = .timeout ∨ p = .faulted := by
  cases p <;> simp [terminal]

/-- All that one step of an attempt can answer (R251, R252). -/
theorem attemptStep_next {after : Phase} {p : Pos} {s t : State} (h : attemptStep after p s = .next t) :
    (∃ q u, statusStep p s = .reached q u ∧ t = goto (.pollAttempt q) u) ∨ statusStep p s = .waits t ∨
      ∃ r, statusStep p s = .ended r ∧ t = attemptDone r after s := by
  unfold attemptStep at h
  split at h
  · simp only [Host.Outcome.next.injEq] at h
    exact .inl ⟨_, _, by assumption, h.symm⟩
  · simp only [Host.Outcome.next.injEq] at h
    subst h
    exact .inr (.inl (by assumption))
  · simp only [Host.Outcome.next.injEq] at h
    exact .inr (.inr ⟨_, by assumption, h.symm⟩)
  · simp at h

/-- All that the first step of a transition can answer (R252). -/
theorem transition_next {after : Phase} {s t : State} (h : transition after s = .next t) :
    (s.pollState = .idle ∧ s.pollMax ≤ s.pollAttempts ∧ t = { s with pollState := .timeout, phase := after }) ∨
      (s.pollState = .idle ∧ ¬ s.pollMax ≤ s.pollAttempts ∧ attemptStep after .first s = .next t) ∨
      (s.pollState = .evaluate ∧ t = { s with pollState := evaluated s, phase := after }) ∨
      (s.pollState = .retry ∧ t = { s with pollState := .idle, phase := after }) := by
  unfold transition at h
  split at h
  · split_ifs at h with hm
    · simp only [Host.Outcome.next.injEq] at h
      exact .inl ⟨by assumption, hm, h.symm⟩
    · exact .inr (.inl ⟨by assumption, hm, h⟩)
  · simp only [Host.Outcome.next.injEq] at h
    exact .inr (.inr (.inl ⟨by assumption, h.symm⟩))
  · simp only [Host.Outcome.next.injEq] at h
    exact .inr (.inr (.inr ⟨by assumption, h.symm⟩))
  · simp at h
  · simp at h
  · simp at h

end Sys2Proof.Machine
end

