-- ==== Sys2Proof/Laws/Ops.lean ====
section
/-! SUPPORT. For each shared operation, once, everything it can do. -/

namespace Sys2Proof.Machine

/-- RXBUF[j] after a store to RXBUF[i] (R46). -/
theorem rxByte_storeRx (i j : Nat) (b : Byte) (s : State) (hj : j < 16) :
    rxByte (storeRx i b s) j = if i = j then b else rxByte s j := by
  unfold rxByte storeRx Vector.getD
  by_cases h : i = j
  · subst h; simp [hj]
  · simp [h, hj]

/-- RXBUF reads 0 past its end: no rule reads there. -/
theorem rxByte_out (s : State) (j : Nat) (hj : 16 ≤ j) : rxByte s j = 0 := by
  unfold rxByte Vector.getD
  simp [show ¬ j < 16 by omega]

/-- A bus with no reply listed completes with the next free draw. -/
theorem nextReply_nil {b : Bus} {s : State} (h : repliesOf b s = []) : nextReply b s = .answer (freeAnswer s.drawn) := by
  simp [nextReply, h]

theorem nextReply_cons {b : Bus} {s : State} {r : Reply} {rs : List Reply} (h : repliesOf b s = r :: rs) :
    nextReply b s = r := by
  simp [nextReply, h]

theorem popReply_nil {b : Bus} {s : State} (h : repliesOf b s = []) : popReply b s = { s with drawn := s.drawn + 1 } := by
  simp [popReply, h]

theorem popReply_answer {b : Bus} {s : State} {a : Answer} {rs : List Reply} (h : repliesOf b s = .answer a :: rs) :
    popReply b s = setReplies b rs s := by
  simp [popReply, h]

theorem popReply_never {b : Bus} {s : State} {rs : List Reply} (h : repliesOf b s = .never :: rs) : popReply b s = s := by
  simp [popReply, h]

theorem popReply_pending {b : Bus} {s : State} {rs : List Reply} (h : repliesOf b s = .pending :: rs) :
    popReply b s = setReplies b rs s := by
  simp [popReply, h]

/-- `onBus` when the transport completes the primitive. -/
theorem onBus_answer {b : Bus} {s : State} {a : Answer} (h : nextReply b s = .answer a) (k : Answer → State → Progress) :
    onBus b s k = k a (popReply b s) := by
  simp [onBus, h]

/-- All that `onBus` can do. -/
theorem onBus_cases (b : Bus) (s : State) (k : Answer → State → Progress) :
    (∃ a, nextReply b s = .answer a ∧ onBus b s k = k a (popReply b s)) ∨
      ((∀ a, nextReply b s ≠ .answer a) ∧ onBus b s k = .waits (popReply b s)) := by
  unfold onBus
  split <;> simp [*]

/-- All that `checkAck` can do (R182). -/
theorem checkAck_cases (a : Ack) (s : State) (g : Progress) :
    (s.params.nackIsFault = true ∧ a = .nack ∧ checkAck a s g = i2cStop (.ended .busFault) s) ∨
      ((s.params.nackIsFault = false ∨ a = .ack) ∧ checkAck a s g = g) := by
  unfold checkAck
  by_cases h : s.params.nackIsFault = true ∧ a = .nack
  · exact .inl ⟨h.1, h.2, by simp [h]⟩
  · refine .inr ⟨?_, by simp [h]⟩
    cases a <;> simp_all

theorem checkAck_ack (s : State) (g : Progress) : checkAck .ack s g = g := by
  simp [checkAck]

/-- All that `settle` can answer. -/
theorem settle_next {g : Progress} {s t : State} (h : settle g s = .next t) :
    (∃ p u, g = .reached p u ∧ t = goto (.txn p) u) ∨ g = .waits t ∨ (∃ r, g = .ended r ∧ t = complete r s) := by
  cases g with
  | reached p u => simp only [settle, Host.Outcome.next.injEq] at h; exact .inl ⟨p, u, rfl, h.symm⟩
  | waits u => simp only [settle, Host.Outcome.next.injEq] at h; exact .inr (.inl (by rw [h]))
  | ended r => simp only [settle, Host.Outcome.next.injEq] at h; exact .inr (.inr ⟨r, rfl, h.symm⟩)
  | stray => simp [settle] at h

/-- `settle` stops only on a stray position. -/
theorem settle_fault {g : Progress} {s : State} {f : Fault} (h : settle g s = .fault f) : g = .stray := by
  cases g <;> simp_all [settle]

/-- A one-step command answers a next state only from its start. -/
theorem atStart_next {s t : State} {o : Out} (h : atStart s o = .next t) : s.phase = .start ∧ o = .next t := by
  unfold atStart at h
  split at h <;> simp_all

theorem atStart_start {s : State} (h : s.phase = .start) (o : Out) : atStart s o = o := by
  simp [atStart, h]

/-- All that a framed command can do. -/
theorem framed_next {s t : State} {o : Out} {k : Pos → State → Progress} (h : framed s o k = .next t) :
    (s.phase = .start ∧ o = .next t) ∨ ∃ p, s.phase = .txn p ∧ settle (k p s) s = .next t := by
  unfold framed at h
  split at h <;> simp_all

theorem framed_start {s : State} (h : s.phase = .start) (o : Out) (k : Pos → State → Progress) : framed s o k = o := by
  simp [framed, h]

theorem framed_txn {s : State} {p : Pos} (h : s.phase = .txn p) (o : Out) (k : Pos → State → Progress) :
    framed s o k = settle (k p s) s := by
  simp [framed, h]

end Sys2Proof.Machine
end

