-- ==== Sys2Proof/Laws/PerInstr.lean ====
section
/-! SUPPORT. A family of facts about every command as syntax: the word `encode` writes carries the OP of the command's row
(R103) and both reserved fields 0 (R104). -/

namespace Sys2Proof.Laws.EncodedOp

/-- The OP of a command's row (R103). -/
def opcode : Instr → BitVec 5
  | .nop => 0x00
  | .baudCalc => 0x01
  | .uartInit => 0x02
  | .uartWrite _ => 0x03
  | .uartRead _ => 0x04
  | .i2cWrite _ _ => 0x05
  | .i2cRead _ _ => 0x06
  | .spiWrite _ _ => 0x07
  | .spiRead _ _ => 0x08
  | .spiCmd _ => 0x09
  | .spiCmdr _ _ => 0x0A
  | .asm16 _ => 0x0B
  | .asmSample => 0x0C
  | .pollInit => 0x0D
  | .pollStep => 0x0E
  | .pollRun => 0x0F

/-- The encoded word carries the row's OP and no reserved bit. -/
def Statement (i : Instr) : Prop :=
  opField (encode i) = opcode i ∧ rsv0Field (encode i) = 0 ∧ rsv1Field (encode i) = 0

theorem nop : Statement .nop := by simp [Statement, encode, opcode]

theorem baudCalc : Statement .baudCalc := by simp [Statement, encode, opcode]

theorem uartInit : Statement .uartInit := by simp [Statement, encode, opcode]

theorem uartWrite (d8 : Byte) : Statement (.uartWrite d8) := by simp [Statement, encode, opcode]

theorem uartRead (len : Nat) : Statement (.uartRead len) := by simp [Statement, encode, opcode]

theorem i2cWrite (reg d8 : Byte) : Statement (.i2cWrite reg d8) := by simp [Statement, encode, opcode]

theorem i2cRead (reg : Byte) (len : Nat) : Statement (.i2cRead reg len) := by simp [Statement, encode, opcode]

theorem spiWrite (instr d8 : Byte) : Statement (.spiWrite instr d8) := by simp [Statement, encode, opcode]

theorem spiRead (instr : Byte) (len : Nat) : Statement (.spiRead instr len) := by simp [Statement, encode, opcode]

theorem spiCmd (instr : Byte) : Statement (.spiCmd instr) := by simp [Statement, encode, opcode]

theorem spiCmdr (instr : Byte) (len : Nat) : Statement (.spiCmdr instr len) := by simp [Statement, encode, opcode]

theorem asm16 (k : Nat) : Statement (.asm16 k) := by simp [Statement, encode, opcode]

theorem asmSample : Statement .asmSample := by simp [Statement, encode, opcode]

theorem pollInit : Statement .pollInit := by simp [Statement, encode, opcode]

theorem pollStep : Statement .pollStep := by simp [Statement, encode, opcode]

theorem pollRun : Statement .pollRun := by simp [Statement, encode, opcode]

end Sys2Proof.Laws.EncodedOp
end

