-- ==== Sys2Proof/Laws/Primitives.lean ====
section
/-! SUPPORT. For each primitive of R80, once, everything it can do: it takes place when the transport completes it, or it
waits. -/

namespace Sys2Proof.Machine

@[simp] theorem uartAddr_popReply (b : Bus) (off : Nat) (s : State) : uartAddr off (popReply b s) = uartAddr off s := by
  simp [uartAddr]

/-- i2cStart: HELD becomes true (R80). -/
theorem i2cStart_cases (next : Pos) (s : State) :
    (∃ a, nextReply .i2c s = .answer a ∧ i2cStart next s =
        .reached next (record .i2cStart { popReply .i2c s with held := true })) ∨
      ((∀ a, nextReply .i2c s ≠ .answer a) ∧ i2cStart next s = .waits (popReply .i2c s)) := by
  unfold i2cStart
  rcases onBus_cases .i2c s _ with ⟨a, h, e⟩ | ⟨h, e⟩
  · exact .inl ⟨a, h, e⟩
  · exact .inr ⟨h, e⟩

/-- i2cRstart: no state change (R80). -/
theorem i2cRstart_cases (next : Pos) (s : State) :
    (∃ a, nextReply .i2c s = .answer a ∧ i2cRstart next s =
        .reached next (record .i2cRstart (popReply .i2c s))) ∨
      ((∀ a, nextReply .i2c s ≠ .answer a) ∧ i2cRstart next s = .waits (popReply .i2c s)) := by
  unfold i2cRstart
  rcases onBus_cases .i2c s _ with ⟨a, h, e⟩ | ⟨h, e⟩
  · exact .inl ⟨a, h, e⟩
  · exact .inr ⟨h, e⟩

/-- i2cWrite: the answer is kept in the next position (R15). -/
theorem i2cWrite_cases (b : Byte) (next : Ack → Pos) (s : State) :
    (∃ a, nextReply .i2c s = .answer a ∧ i2cWrite b next s =
        .reached (next a.ack) (record (.i2cWrite b a.ack) (popReply .i2c s))) ∨
      ((∀ a, nextReply .i2c s ≠ .answer a) ∧ i2cWrite b next s = .waits (popReply .i2c s)) := by
  unfold i2cWrite
  rcases onBus_cases .i2c s _ with ⟨a, h, e⟩ | ⟨h, e⟩
  · exact .inl ⟨a, h, e⟩
  · exact .inr ⟨h, e⟩

/-- i2cRead: the byte goes to RXBUF[i] in its own step (R46). -/
theorem i2cRead_cases (i : Nat) (last : Bool) (next : Pos) (s : State) :
    (∃ a, nextReply .i2c s = .answer a ∧ i2cRead i last next s =
        .reached next (record (.i2cRead last (dataByte a.data)) (storeRx i (dataByte a.data) (popReply .i2c s)))) ∨
      ((∀ a, nextReply .i2c s ≠ .answer a) ∧ i2cRead i last next s = .waits (popReply .i2c s)) := by
  unfold i2cRead
  rcases onBus_cases .i2c s _ with ⟨a, h, e⟩ | ⟨h, e⟩
  · exact .inl ⟨a, h, e⟩
  · exact .inr ⟨h, e⟩

/-- i2cStop: HELD becomes false (R80). -/
theorem i2cStop_cases (next : Pos) (s : State) :
    (∃ a, nextReply .i2c s = .answer a ∧ i2cStop next s =
        .reached next (record .i2cStop { popReply .i2c s with held := false })) ∨
      ((∀ a, nextReply .i2c s ≠ .answer a) ∧ i2cStop next s = .waits (popReply .i2c s)) := by
  unfold i2cStop
  rcases onBus_cases .i2c s _ with ⟨a, h, e⟩ | ⟨h, e⟩
  · exact .inl ⟨a, h, e⟩
  · exact .inr ⟨h, e⟩

/-- csAssert: CS becomes asserted (R80). -/
theorem csAssert_cases (next : Pos) (s : State) :
    (∃ a, nextReply .spi s = .answer a ∧ csAssert next s =
        .reached next (record .csAssert { popReply .spi s with cs := true })) ∨
      ((∀ a, nextReply .spi s ≠ .answer a) ∧ csAssert next s = .waits (popReply .spi s)) := by
  unfold csAssert
  rcases onBus_cases .spi s _ with ⟨a, h, e⟩ | ⟨h, e⟩
  · exact .inl ⟨a, h, e⟩
  · exact .inr ⟨h, e⟩

/-- csDeassert: CS becomes deasserted (R80). -/
theorem csDeassert_cases (next : Pos) (s : State) :
    (∃ a, nextReply .spi s = .answer a ∧ csDeassert next s =
        .reached next (record .csDeassert { popReply .spi s with cs := false })) ∨
      ((∀ a, nextReply .spi s ≠ .answer a) ∧ csDeassert next s = .waits (popReply .spi s)) := by
  unfold csDeassert
  rcases onBus_cases .spi s _ with ⟨a, h, e⟩ | ⟨h, e⟩
  · exact .inl ⟨a, h, e⟩
  · exact .inr ⟨h, e⟩

/-- spiSend: the answer is discarded (R201). -/
theorem spiSend_cases (out : Byte) (next : Pos) (s : State) :
    (∃ a, nextReply .spi s = .answer a ∧ spiSend out next s =
        .reached next (record (.spiXfer out (dataByte a.data)) (popReply .spi s))) ∨
      ((∀ a, nextReply .spi s ≠ .answer a) ∧ spiSend out next s = .waits (popReply .spi s)) := by
  unfold spiSend
  rcases onBus_cases .spi s _ with ⟨a, h, e⟩ | ⟨h, e⟩
  · exact .inl ⟨a, h, e⟩
  · exact .inr ⟨h, e⟩

/-- spiReceive: the byte goes to RXBUF[i] (R46, R202). -/
theorem spiReceive_cases (i : Nat) (next : Pos) (s : State) :
    (∃ a, nextReply .spi s = .answer a ∧ spiReceive i next s =
        .reached next (record (.spiXfer Config.spiDummy (dataByte a.data)) (storeRx i (dataByte a.data) (popReply .spi s)))) ∨
      ((∀ a, nextReply .spi s ≠ .answer a) ∧ spiReceive i next s = .waits (popReply .spi s)) := by
  unfold spiReceive
  rcases onBus_cases .spi s _ with ⟨a, h, e⟩ | ⟨h, e⟩
  · exact .inl ⟨a, h, e⟩
  · exact .inr ⟨h, e⟩

/-- uartReadFlags: the flag word is kept in the next position (R15). -/
theorem uartReadFlags_cases (next : Word → Pos) (s : State) :
    (∃ a, nextReply .uart s = .answer a ∧ uartReadFlags next s =
        .reached (next a.data) (record (.memRead (uartAddr s.params.uartFrOff s) a.data) (popReply .uart s))) ∨
      ((∀ a, nextReply .uart s ≠ .answer a) ∧ uartReadFlags next s = .waits (popReply .uart s)) := by
  unfold uartReadFlags
  rcases onBus_cases .uart s _ with ⟨a, h, e⟩ | ⟨h, e⟩
  · exact .inl ⟨a, h, e⟩
  · exact .inr ⟨h, e⟩

/-- uartReceive: the low byte goes to RXBUF[i] (R77). -/
theorem uartReceive_cases (i : Nat) (next : Pos) (s : State) :
    (∃ a, nextReply .uart s = .answer a ∧ uartReceive i next s =
        .reached next (record (.memRead (uartAddr s.params.uartDrOff s) a.data) (storeRx i (dataByte a.data) (popReply .uart s)))) ∨
      ((∀ a, nextReply .uart s ≠ .answer a) ∧ uartReceive i next s = .waits (popReply .uart s)) := by
  unfold uartReceive
  rcases onBus_cases .uart s _ with ⟨a, h, e⟩ | ⟨h, e⟩
  · exact .inl ⟨a, h, e⟩
  · exact .inr ⟨h, e⟩

/-- uartWriteReg: the register updates of the same step go with it (R15). -/
theorem uartWriteReg_cases (off : Nat) (v : Word) (upd : State → State) (next : Pos) (s : State) :
    (∃ a, nextReply .uart s = .answer a ∧ uartWriteReg off v upd next s =
        .reached next (record (.memWrite (uartAddr off s) v) (upd (popReply .uart s)))) ∨
      ((∀ a, nextReply .uart s ≠ .answer a) ∧ uartWriteReg off v upd next s = .waits (popReply .uart s)) := by
  unfold uartWriteReg
  rcases onBus_cases .uart s _ with ⟨a, h, e⟩ | ⟨h, e⟩
  · exact .inl ⟨a, h, e⟩
  · exact .inr ⟨h, e⟩

end Sys2Proof.Machine
end

