-- ==== Sys2Proof/Laws/Step.lean ====
section
/-! SUPPORT. Whose step a step is (R9, R90), said once. -/

namespace Sys2Proof.Machine

/-- All that `step` can do: a step of the sequencer, of the host or of reset, by the first turn of the agenda. -/
theorem step_cases {s t : State} (h : step s = .next t) :
    s.params.aligned = true ∧
      ((s.agenda = [] ∧ sequencerStep s = .next t) ∨
        (∃ rest, s.agenda = .sequencer :: rest ∧ sequencerStep { s with agenda := rest } = .next t) ∨
        (∃ a rest, s.agenda = .host a :: rest ∧ hostStep a { s with agenda := rest } = .next t) ∨
        ∃ rest, s.agenda = .reset :: rest ∧ t = resetEvent { s with agenda := rest }) := by
  unfold step machineStep at h
  split at h
  · refine ⟨by assumption, ?_⟩
    unfold takeTurn at h
    split at h
    · exact .inl ⟨by assumption, h⟩
    · exact .inr (.inl ⟨_, by assumption, h⟩)
    · exact .inr (.inr (.inl ⟨_, _, by assumption, h⟩))
    · simp only [Host.Outcome.next.injEq] at h
      exact .inr (.inr (.inr ⟨_, by assumption, h.symm⟩))
  · simp at h

/-- All that the sequencer's turn can do (R132, R133). -/
theorem sequencerStep_cases {s t : State} (h : sequencerStep s = .next t) :
    (s.busy = false ∧ t = s) ∨ (s.busy = true ∧ ∃ i, decode s.cur = .ok i ∧ exec i s = .next t) ∨
      (s.busy = true ∧ (∃ e, decode s.cur = .error e) ∧ s.phase = .start ∧ t = complete .illegalCommand s) := by
  unfold sequencerStep at h
  split at h
  · next hb =>
    split at h
    · next i hi => exact .inr (.inl ⟨hb, i, hi, h⟩)
    · next e he =>
      obtain ⟨hp, ho⟩ := atStart_next h
      simp only [Host.Outcome.next.injEq] at ho
      exact .inr (.inr ⟨hb, ⟨e, he⟩, hp, ho.symm⟩)
  · next hb =>
    simp only [Host.Outcome.next.injEq] at h
    exact .inl ⟨by simpa using hb, h.symm⟩

/-- All that one host access can do (R71, R72): it is 32 bits wide, word-aligned and inside the window, and it reads or
writes the register at its offset. -/
theorem hostStep_cases {a : HostAccess} {s t : State} (h : hostStep a s = .next t) :
    a.bytes = 4 ∧ s.params.blockBase ≤ a.addr ∧ a.addr - s.params.blockBase < Config.windowSize ∧
      (a.addr - s.params.blockBase) % 4 = 0 ∧
      ((a.value = none ∧
          t = record (.hostRead (a.addr - s.params.blockBase) (readWindow (a.addr - s.params.blockBase) s)) s) ∨
        ∃ v, a.value = some v ∧
          t = record (.hostWrite (a.addr - s.params.blockBase) v) (writeWindow (a.addr - s.params.blockBase) v s)) := by
  unfold hostStep at h
  simp only at h
  split_ifs at h with h1 h2 h3
  refine ⟨by omega, by omega, by omega, by omega, ?_⟩
  split at h
  · simp only [Host.Outcome.next.injEq] at h
    exact .inl ⟨by assumption, h.symm⟩
  · simp only [Host.Outcome.next.injEq] at h
    exact .inr ⟨_, by assumption, h.symm⟩

/-- A write while BUSY = 1 changes nothing but REJECT (R131); with BUSY = 0 it stores. -/
theorem writeReg_busy {s : State} (hb : s.busy = true) (r : HostReg) (v : Word) :
    writeReg r v s = if writable r then { s with reject := true } else s := by
  unfold writeReg
  cases r <;> simp [hb, writable, storeReg]

end Sys2Proof.Machine
end

