-- ==== Sys2Proof/Laws/Run.lean ====
section
/-! SUPPORT. Runs, and what a machine does from a state in which a command has just been accepted. -/

namespace Sys2Proof.Machine

@[simp] theorem run_zero (s : State) : run 0 s = .next s := rfl

/-- A run of any machine takes its first step. -/
theorem core_run_succ (M : Host.Core) {s t : M.State} (h : M.step s = .next t) (n : Nat) : M.run (n + 1) s = M.run n t := by
  simp only [Host.Core.run, h]

/-- A run takes its first step. -/
theorem run_succ {s t : State} (h : step s = .next t) (n : Nat) : run (n + 1) s = run n t :=
  core_run_succ Sys2Proof.core h n

/-- A step that changes nothing is repeated for ever (R81). -/
theorem run_fixed {s : State} (h : step s = .next s) (n : Nat) : run n s = .next s := by
  induction n with
  | zero => rfl
  | succ n ih => rw [run_succ h, ih]

/-- What `begins` says, in parts. -/
theorem begins_iff {i : Instr} {s : State} : begins i s = true ↔
    s.params.aligned = true ∧ s.agenda = [] ∧ s.busy = true ∧ s.phase = .start ∧ decode s.cur = .ok i := by
  have e : ∀ x : Except Illegal Instr, (x == .ok i) = true ↔ x = .ok i := by
    intro x
    cases x <;> simp [BEq.beq]
  simp only [begins, Bool.and_eq_true, List.isEmpty_iff, e, beq_iff_eq, and_assoc]

@[simp] theorem attemptSteps_nil : attemptSteps [] = 0 := rfl

@[simp] theorem attemptSteps_cons (x : Attempt) (xs : List Attempt) :
    attemptSteps (x :: xs) = x.answers.length + 3 + attemptSteps xs := by
  simp [attemptSteps]

@[simp] theorem retryEdges_zero (s : State) : retryEdges 0 s = 0 := rfl

/-- The back edges of a run are those of its first step and of the rest. -/
theorem retryEdges_succ {s t : State} (h : step s = .next t) (n : Nat) : retryEdges (n + 1) s =
    (if s.phase = .pollTest ∧ s.pollState = .retry ∧ t.pollState = .idle then 1 else 0) + retryEdges n t := by
  rw [retryEdges, h]

/-- The bus of a status transaction, and what it decodes to (R108). -/
theorem statusTxn_busOf {s : State} {i : Instr} (h : statusTxn s = some i) :
    (busOf i = .i2c ∧ ∃ reg, i = .i2cRead reg 1) ∨
      (busOf i = .spi ∧ ((∃ instr, i = .spiRead instr 1) ∨ ∃ instr, i = .spiCmdr instr 1)) ∨
      (busOf i = .uart ∧ i = .uartRead 1) := by
  obtain ⟨-, ⟨reg, rfl, -⟩ | ⟨instr, rfl⟩ | ⟨instr, rfl⟩ | rfl⟩ := statusTxn_some h <;> simp [busOf]

@[simp] theorem afterAttempts_history (b : Bus) (attempts : List Attempt) (rest : List Reply) (s : State) :
    (afterAttempts b attempts rest s).history = s.history ++ attempts.flatMap (·.events) := rfl

@[simp] theorem afterAttempts_pollAttempts (b : Bus) (attempts : List Attempt) (rest : List Reply) (s : State) :
    (afterAttempts b attempts rest s).pollAttempts = BitVec.ofNat 16 attempts.length := rfl

@[simp] theorem repliesOf_afterAttempts (b : Bus) (attempts : List Attempt) (rest : List Reply) (s : State) :
    repliesOf b (afterAttempts b attempts rest s) = rest := by
  cases b <;> rfl

/-- With the other agents silent, a step of a busy core is one step of its command (R132). -/
theorem step_exec {i : Instr} {s : State} (ha : s.params.aligned = true) (hg : s.agenda = []) (hb : s.busy = true)
    (hd : decode s.cur = .ok i) : step s = exec i s := by
  simp [step, machineStep, ha, takeTurn, hg, sequencerStep, hb, hd]

end Sys2Proof.Machine
end

