-- ==== Sys2Proof/Tests/Slice0.lean ====
section
/-! SUPPORT. Small tests: the checks of WellFormed, the decoding of words written out bit by bit from R101 and R103, one step
of each command with the values of 95_test_vectors.md, and, for every statement with hypotheses, a state that meets them. -/

namespace Sys2Proof.Tests

open Sys2Proof Sys2Proof.Machine

/-! ### WellFormed refuses ill-formed terms (R101, R102) -/

theorem test_wf_uart_read_32 : (Instr.uartRead 32).wellFormed = false := by decide
theorem test_wf_i2c_read_32 : (Instr.i2cRead 0x3B 32).wellFormed = false := by decide
theorem test_wf_spi_read_32 : (Instr.spiRead 0x03 32).wellFormed = false := by decide
theorem test_wf_spi_cmdr_32 : (Instr.spiCmdr 0x05 32).wellFormed = false := by decide
theorem test_wf_asm16_256 : (Instr.asm16 256).wellFormed = false := by decide
theorem test_wf_bounds : (Instr.uartRead 31).wellFormed = true ∧ (Instr.asm16 255).wellFormed = true := by decide

/-! ### Decoding: RSV1, LEN, D8, A8, RSV0, OP from the top bit (R101), the OP of R103 -/

theorem test_decode_nop : decode 0b000_00000_00000000_00000000_000_00000#32 = .ok .nop := by decide
theorem test_decode_baud_calc : decode 0b000_00000_00000000_00000000_000_00001#32 = .ok .baudCalc := by decide
theorem test_decode_uart_init : decode 0b000_00000_00000000_00000000_000_00010#32 = .ok .uartInit := by decide
theorem test_decode_uart_write : decode 0b000_00000_01000001_00000000_000_00011#32 = .ok (.uartWrite 0x41) := by decide
theorem test_decode_uart_read : decode 0b000_10000_00000000_00000000_000_00100#32 = .ok (.uartRead 16) := by decide
theorem test_decode_i2c_write : decode 0b000_00000_11111111_00000001_000_00101#32 = .ok (.i2cWrite 0x01 0xFF) := by decide
theorem test_decode_i2c_read : decode 0b000_11111_00000000_00111011_000_00110#32 = .ok (.i2cRead 0x3B 31) := by decide
theorem test_decode_spi_write : decode 0b000_00000_01011010_00000010_000_00111#32 = .ok (.spiWrite 0x02 0x5A) := by decide
theorem test_decode_spi_read : decode 0b000_10000_00000000_00000011_000_01000#32 = .ok (.spiRead 0x03 16) := by decide
theorem test_decode_spi_cmd : decode 0b000_00000_00000000_00000110_000_01001#32 = .ok (.spiCmd 0x06) := by decide
theorem test_decode_spi_cmdr : decode 0b000_00001_00000000_00000101_000_01010#32 = .ok (.spiCmdr 0x05 1) := by decide
theorem test_decode_asm16 : decode 0b000_00000_00000000_11111111_000_01011#32 = .ok (.asm16 255) := by decide
theorem test_decode_asm_sample : decode 0b000_00000_00000000_00000000_000_01100#32 = .ok .asmSample := by decide
theorem test_decode_poll_init : decode 0b000_00000_00000000_00000000_000_01101#32 = .ok .pollInit := by decide
theorem test_decode_poll_step : decode 0b000_00000_00000000_00000000_000_01110#32 = .ok .pollStep := by decide
theorem test_decode_poll_run : decode 0b000_00000_00000000_00000000_000_01111#32 = .ok .pollRun := by decide

/-- V-D2, V-D6, V-D7: a reserved bit. -/
theorem test_decode_reserved : decode 0x00000020#32 = .error .reservedBits ∧ decode 0x20003B06#32 = .error .reservedBits ∧
    decode 0x80000001#32 = .error .reservedBits := by decide

/-- V-D3, V-D9, V-D11, V-D12, V-D14, V-D16, V-D17, V-D19: a field the row leaves unused. -/
theorem test_decode_unused :
    [0x00010000#32, 0x01010004, 0x00000103, 0x01000003, 0x01006B05, 0x0000010C, 0x0100000F, 0x00AB0609].all
      (fun w => decode w == .error .unusedField) = true := by decide

/-- V-D4, V-D5, V-D20: an undefined OP. -/
theorem test_decode_undefined : [0x00000010#32, 0x0000001F, 0xFFFFFFFF].all (fun w => decode w == .error .undefinedOp) = true := by
  decide

/-! ### One step of each command -/

/-- A bench: the state after a host wrote w to CMD, with the default parameters of R7 and both bases fixed. -/
def bench (w : Word) : State :=
  { State.reset with
    cur := w, busy := true, phase := .start, i2cDev := 0x68, maddr := 0x0123,
    params := { blockBase := 0x4000, uartBaseWords := 0x400 } }

/-- A bench inside the command's transaction. -/
def benchAt (w : Word) (p : Pos) : State := { bench w with phase := .txn p }

/-- One answer. -/
def yes (d : Word) : Reply := .answer ⟨.ack, d⟩

/-- A field of the next state. -/
def out {α : Type} (o : Out) (f : State → α) : Option α :=
  match o with
  | .next t => some (f t)
  | .fault _ => none
  | .refused _ => none

/-- V-C1: STATUS 0x00000002. -/
theorem test_nop : out (step (bench 0x00000000)) statusWord = some 0x00000002#32 := by decide

/-- V-C2: STATUS 0x00000502, no event. -/
theorem test_illegal : out (step (bench 0x00000010)) (fun t => (statusWord t, t.history)) = some (0x00000502#32, []) := by decide

/-- V-B1: BAUDDIV 0x000B0068. -/
theorem test_baud_calc : out (step { bench 0x01 with clkHz := 16000000, baud := 9600 }) (readReg .bauddiv) =
    some 0x000B0068#32 := by decide

/-- V-B11: INVALID_CONFIG, BAUDDIV unchanged. -/
theorem test_baud_calc_invalid : out (step { bench 0x01 with clkHz := 1048561, baud := 1 })
    (fun t => (statusWord t, readReg .bauddiv t)) = some (0x00000402#32, 0) := by decide

/-- V-U1: the first write is MW(0x024, 0x68). -/
theorem test_uart_init : out (step { bench 0x02 with clkHz := 16000000, baud := 9600, uartReplies := [yes 0] })
    (fun t => t.history) = some [.memWrite 0x1024 0x68] := by decide

/-- V-U1: the third write is MW(0x02C, 0x70). -/
theorem test_uart_init_lcr : out (step { benchAt 0x02 .uartLcr with uartLcr := 0x70, uartReplies := [yes 0] })
    (fun t => (t.history, t.phase)) = some ([.memWrite 0x102C 0x70], .txn .uartCr) := by decide

/-- V-U6: RX-empty does not block a write. -/
theorem test_uart_write : out (step { benchAt 0x00410003 (.uartTx 0x10) with uartReplies := [yes 0] })
    (fun t => t.history) = some [.memWrite 0x1000 0x41] := by decide

/-- V-U5: TX-full reads the flags again. -/
theorem test_uart_write_full : out (step { benchAt 0x00410003 (.uartTx 0x20) with uartReplies := [yes 0x20] })
    (fun t => t.history) = some [.memRead 0x1018 0x20] := by decide

/-- V-U9: DR[31:8] ignored. -/
theorem test_uart_read : out (step { benchAt 0x02000004 (.uartRx 0 0) with uartReplies := [yes 0x141] })
    (fun t => (rxByte t 0, t.phase)) = some (0x41#8, .txn (.uartNext 1)) := by decide

/-- V-U11: INVALID_LENGTH. -/
theorem test_uart_read_17 : out (step (bench 0x11000004)) statusWord = some 0x00000202#32 := by decide

/-- V-I1: W(0xD0). -/
theorem test_i2c_write : out (step { benchAt 0x00006B05 .i2cAddress with i2cReplies := [yes 0] })
    (fun t => (t.history, t.phase)) = some ([.i2cWrite 0xD0 .ack], .txn (.i2cRegister .ack)) := by decide

/-- V-I2: a NACK sends STOP and ends BUS_FAULT. -/
theorem test_i2c_write_nack : out (step { benchAt 0x00006B05 (.i2cRegister .nack) with held := true, i2cReplies := [yes 0] })
    (fun t => (t.history, t.phase, t.held)) = some ([.i2cStop], .txn (.ended .busFault), false) := by decide

/-- V-I5: the second byte is read with `last`. -/
theorem test_i2c_read : out (step { benchAt 0x02003B06 (.i2cByte 1) with i2cReplies := [yes 0x34] })
    (fun t => (t.history, rxByte t 1)) = some ([.i2cRead true 0x34], 0x34#8) := by decide

/-- V-I10: INVALID_LENGTH. -/
theorem test_i2c_read_17 : out (step (bench 0x11003B06)) statusWord = some 0x00000202#32 := by decide

/-- R205's example: the high address byte X(0x01) follows the instruction. -/
theorem test_spi_write : out (step { benchAt 0x005A0207 .spiAddrHigh with spiReplies := [yes 0xEE] })
    (fun t => (t.history, t.phase)) = some ([.spiXfer 0x01 0xEE], .txn .spiAddrLow) := by decide

/-- R208's example: the dummy is answered 0x5A. -/
theorem test_spi_read : out (step { benchAt 0x01000308 (.spiByte 0) with spiReplies := [yes 0x5A] })
    (fun t => (t.history, rxByte t 0)) = some ([.spiXfer 0x00 0x5A], 0x5A#8) := by decide

/-- R211's example: X(0x06), then deassert. -/
theorem test_spi_cmd : out (step { benchAt 0x00000609 .spiInstr with spiReplies := [yes 0] })
    (fun t => (t.history, t.phase)) = some ([.spiXfer 0x06 0x00], .txn .spiRelease) := by decide

/-- R214's example: X(0x00) -> 0x03. -/
theorem test_spi_cmdr : out (step { benchAt 0x0100050A (.spiByte 0) with spiReplies := [yes 0x03] })
    (fun t => (t.history, rxByte t 0)) = some ([.spiXfer 0x00 0x03], 0x03#8) := by decide

/-- E3: 80 00 is -32768. -/
theorem test_asm16 : out (step { bench 0x0000000B with rxbuf := (Vector.replicate 16 0).set 0 0x80 }) (readReg .asm) =
    some 0xFFFF8000#32 := by decide

/-- R230: k = 15 is refused, ASMV unchanged. -/
theorem test_asm16_15 : out (step { bench 0x00000F0B with asmv := 5 }) (fun t => (statusWord t, t.asmv)) =
    some (0x00000202#32, 5#16) := by decide

/-- R235's example. -/
theorem test_asm_sample :
    out (step { bench 0x0000000C with
      rxbuf := #v[0x12, 0x34, 0xFF, 0xFF, 0x80, 0x00, 0x0A, 0x0B, 0x7F, 0xFF, 0x00, 0x01, 0xFE, 0x0C, 0, 0] })
      (fun t => [readReg .sample01 t, readReg .sample23 t, readReg .sample45 t]) =
    some [0xFFFF1234#32, 0x7FFF8000, 0xFE0C0001] := by decide

/-- R255's example. -/
theorem test_poll_init : out (step { bench 0x0D with pollTxn := 0x0100050A, pollLast := 9, pollAttempts := 4 })
    (fun t => (readReg .pollInfo t, statusWord t)) = some (0#32, 0x00000002#32) := by decide

/-- R255: POLL_TXN = 0 is NOP, no status transaction. -/
theorem test_poll_init_invalid : out (step (bench 0x0D)) statusWord = some 0x00000402#32 := by decide

/-- R258: the zero budget moves Idle to Timeout without a transaction. -/
theorem test_poll_step : out (step (bench 0x0E)) (fun t => (t.pollState, t.phase, t.history)) =
    some (.timeout, .pollEnd, []) := by decide

/-- R252: the end of an attempt. -/
theorem test_poll_step_attempt :
    out (step { bench 0x0E with pollMax := 2, pollTxn := 0x0100050A, phase := .pollAttempt (.ended .ok),
                                rxbuf := Vector.replicate 16 0x01 })
      (readReg .pollInfo) = some 0x00010101#32 := by decide

/-- R262: the attempt begins with chip select. -/
theorem test_poll_run : out (step { bench 0x0F with pollMax := 3, pollTxn := 0x0100050A, phase := .pollTest, spiReplies := [yes 0] })
    (fun t => (t.history, t.phase)) = some ([.csAssert], .pollAttempt .spiInstr) := by decide

/-- R253: Timeout ends with TIMEOUT. -/
theorem test_poll_run_timeout : out (step { bench 0x0F with pollState := .timeout, phase := .pollTest }) statusWord =
    some 0x00000102#32 := by decide

/-- R322, R130: the word placed for the next step is the command that runs from reset. -/
theorem test_fetch_word : out (step (State.reset.withFetchWord 32 0x0000000B)) statusWord = some 0x00000002#32 := by decide

/-! ### A state that meets the hypotheses of each statement, at the bounds of each clause -/

/-- An accepted command on a quiet machine, with replies on every bus. -/
def busyBench (w : Word) (rs : List Reply) : State := { bench w with i2cReplies := rs, spiReplies := rs, uartReplies := rs }

/-- A quiescent state. -/
def idleBench : State := { bench 0 with busy := false, phase := .idle }

theorem witness_encode : (Instr.i2cRead 0xFF 31).wellFormed = true ∧ (Instr.uartRead 0).wellFormed = true ∧
    (Instr.asm16 255).wellFormed = true := by decide

theorem witness_decoded_word : decode 0x1F00FF06#32 = .ok (.i2cRead 0xFF 31) := by decide

theorem witness_host_refused : hostStep ⟨0x4000, 2, none⟩ idleBench = .refused .hostWidth ∧
    hostStep ⟨0x4100, 4, none⟩ idleBench = .refused .hostWindow ∧
    hostStep ⟨0x4002, 4, none⟩ idleBench = .refused .hostAlignment := ⟨rfl, rfl, rfl⟩

theorem witness_host_next : ∃ t, hostStep ⟨0x40FC, 4, none⟩ idleBench = .next t := ⟨_, rfl⟩

theorem witness_accept : idleBench.busy = false := by decide

theorem witness_busy_write : (bench 0).busy = true ∧ writable .cmd = true ∧ writable .status = false := by decide

theorem witness_reject_cleared :
    let s := { idleBench with reject := true }
    s.reject = true ∧ out (hostStep (hostWriteAt 0x00 0x0B s) s) (fun t => (t.reject, t.cur, t.busy)) =
      some (false, 0x0B#32, true) := by decide

/-- R32, R30: a read of CMD returns CUR. -/
theorem test_read_cmd : out (hostStep (hostReadAt 0x00 (bench 0x00410003)) (bench 0x00410003)) (fun t => t.history) =
    some [.hostRead 0x00 0x00410003] := by decide

/-- R39: MASK at [7:0], MATCH at [15:8], MAX at [31:16]. -/
theorem test_read_poll_cfg : readWindow 0x24 { idleBench with pollMask := 0x11, pollMatch := 0x22, pollMax := 0x4433 } =
    0x44332211#32 := by decide

theorem witness_reserved_offset : 20 ≤ 20 ∧ 63 < 64 ∧ regAt (4 * 20) = none ∧ regAt (4 * 19) = some .rxbuf3 := by decide

theorem witness_rw_write : idleBench.busy = false ∧ HostReg.pollCfg ∈ [HostReg.i2cDev, .maddr, .clkHz, .baud, .uartLcr,
    .uartCr, .pollCfg, .pollTxn] ∧ HostReg.maddr ≠ HostReg.pollCfg := by decide

theorem witness_reset_event : (bench 0).params.aligned = true ∧ { bench 0 with agenda := [.reset] }.agenda = .reset :: [] := by
  decide

theorem witness_step_runs : (bench 0x0B).params.aligned = true ∧ (bench 0x0B).busy = true ∧
    decode (bench 0x0B).cur = .ok (.asm16 0) ∧ (bench 0x0B).agenda = [] := by decide

theorem witness_step_runs_turn : { bench 0x0B with agenda := [.sequencer, .reset] }.agenda = .sequencer :: [.reset] := by decide

theorem witness_step_host : { bench 0x0B with agenda := [.host ⟨0x4000, 4, some 0⟩, .sequencer] }.params.aligned = true ∧
    { bench 0x0B with agenda := [.host ⟨0x4000, 4, some 0⟩, .sequencer] }.agenda = .host ⟨0x4000, 4, some 0⟩ :: [.sequencer] := by
  decide

theorem witness_quiescent : idleBench.params.aligned = true ∧ idleBench.busy = false ∧ idleBench.agenda = [] ∧
    { idleBench with agenda := [.sequencer] }.agenda = .sequencer :: [] := by decide

theorem witness_illegal : (bench 0x10).params.aligned = true ∧ (bench 0x10).agenda = [] ∧ (bench 0x10).busy = true ∧
    (bench 0x10).phase = .start ∧ decode (bench 0x10).cur = .error .undefinedOp := by decide

theorem witness_stuck :
    (let s := busyBench 0x005A0207 [.never];
      begins (.spiWrite 0x02 0x5A) s = true ∧ s.spiReplies.head? = some .never) ∧
    (let s := busyBench 0x00006B05 [.never];
      begins (.i2cWrite 0x6B 0x00) s = true ∧ s.i2cDev ≠ 0 ∧ s.i2cReplies.head? = some .never) ∧
    (let s := busyBench 0x00410003 [.never];
      begins (.uartWrite 0x41) s = true ∧ s.uartReplies.head? = some .never) := by decide

/-- The position would use up an answer of bus b, and its transport does not complete. -/
def waitsAt (s : State) (b : Bus) : Bool :=
  s.params.aligned && s.agenda.isEmpty && out (step (setReplies b [yes 0x20] s)) (repliesOf b) == some [] &&
    repliesOf b (setReplies b [.never] s) == .never :: [] && repliesOf b (setReplies b [.pending] s) == .pending :: []

theorem witness_stuck_anywhere :
    waitsAt (benchAt 0x02003B06 (.i2cByte 1)) .i2c = true ∧ waitsAt (benchAt 0x02000308 (.spiByte 2)) .spi = true ∧
      waitsAt (benchAt 0x02000004 (.uartNext 1)) .uart = true ∧ waitsAt (benchAt 0x02000004 (.uartNext 2)) .uart = false ∧
      waitsAt { bench 0x0F with pollMax := 1, pollTxn := 0x01003B06, phase := .pollTest } .i2c = true := by decide

theorem witness_nop : (bench 0x00).phase = .start ∧ opField (bench 0x20).cur = 0 ∧ (bench 0x20).cur ≠ 0 ∧
    (bench 0x20).busy = true := by decide

theorem witness_baud_calc_bounds :
    (8 * 16 + 1) / (2 * 1) = 64 ∧ (8 * 47 + 3) / (2 * 3) = 63 ∧ (8 * 1048560 + 1) / (2 * 1) = 4194240 ∧
      (8 * 4194241 + 4) / (2 * 4) = 4194241 := by decide

theorem witness_divisor : divisor 16000000 9600 = some (104, 11) ∧ divisor 16 1 = some (1, 0) ∧
    divisor 1048560 1 = some (65535, 0) ∧ divisor 47 3 = none ∧ divisor 4194241 4 = none ∧ divisor 1 0 = none := by decide

theorem witness_asm : (bench 0x0E0B).phase = .start ∧ decode 0x00000E0B#32 = .ok (.asm16 14) ∧
    decode 0x00000F0B#32 = .ok (.asm16 15) ∧ (bench 0x0C).phase = .start := by decide

theorem witness_sample_bounds : signed16 (raw16 0x7F 0xFF) = 32767 ∧ signed16 (raw16 0x80 0x00) = -32768 ∧
    signed16 (raw16 0xFF 0xFF) = -1 := by decide

/-- A bench inside a transaction, with one reply on every bus. -/
def inside (w : Word) (p : Pos) : State := { busyBench w [yes 0x20] with phase := .txn p }

/-- The bench stands at each position with an answer next on bus b. -/
def standsAt (w : Word) (b : Bus) (ps : List Pos) : Bool :=
  ps.all fun p => (inside w p).phase == .txn p && nextReply b (inside w p) == .answer ⟨.ack, 0x20⟩

theorem witness_uart_init :
    (let s := { busyBench 0x02 [yes 0x20] with clkHz := 16000000, baud := 9600 };
      s.phase = .start ∧ divisor s.clkHz.toNat s.baud.toNat = some (104, 11) ∧ nextReply .uart s = .answer ⟨.ack, 0x20⟩) ∧
    ((bench 0x02).phase = .start ∧ divisor (bench 0x02).clkHz.toNat (bench 0x02).baud.toNat = none) ∧
    standsAt 0x02 .uart [.uartFbrd 11, .uartLcr, .uartCr, .ended .ok] = true := by decide

theorem witness_uart_init_run :
    let s := { busyBench 0x02 [yes 1, yes 2, yes 3, yes 4] with clkHz := 16000000, baud := 9600 }
    begins .uartInit s = true ∧ divisor s.clkHz.toNat s.baud.toNat = some (104, 11) ∧
      s.uartReplies = [.answer ⟨.ack, 1⟩, .answer ⟨.ack, 2⟩, .answer ⟨.ack, 3⟩, .answer ⟨.ack, 4⟩] ++ [] := by decide

theorem witness_uart_write : standsAt 0x00410003 .uart [.uartTx 0x20, .uartTx 0x10, .ended .ok] = true ∧
    (let s := busyBench 0x00410003 [yes 0x20];
      s.phase = .start ∧ nextReply .uart s = .answer ⟨.ack, 0x20⟩) := by decide

theorem witness_uart_write_run :
    let s := busyBench 0x00410003 [yes 0x20, yes 0x10, yes 0]
    begins (.uartWrite 0x41) s = true ∧ (∀ a ∈ [(⟨.ack, 0x20⟩ : Answer)], a.data.getLsbD s.params.frTxffBit = true) ∧
      (0x10#32).getLsbD s.params.frTxffBit = false ∧
      s.uartReplies = [(⟨.ack, 0x20⟩ : Answer)].map .answer ++ [.answer ⟨.ack, 0x10⟩, .answer ⟨.ack, 0⟩] ++ [] := by decide

theorem witness_uart_read :
    ((bench 0x00000004).phase = .start ∧ (bench 0x11000004).phase = .start) ∧
    standsAt 0x02000004 .uart [.uartRx 0 0x10, .uartRx 1 0x00, .uartNext 1, .uartNext 2] = true ∧
    (let s := busyBench 0x10000004 [yes 0x20];
      s.phase = .start ∧ nextReply .uart s = .answer ⟨.ack, 0x20⟩) := by decide

theorem witness_uart_read_run :
    (let s := busyBench 0x01000004 [yes 0x10, yes 0x12, yes 0, yes 0x5A];
      let bytes : List (List Answer × Answer × Answer) := [([⟨.ack, 0x10⟩, ⟨.ack, 0x12⟩], ⟨.ack, 0⟩, ⟨.ack, 0x5A⟩)];
      begins (.uartRead 1) s = true ∧ bytes.length = 1 ∧
        (∀ p ∈ bytes, (∀ a ∈ p.1, a.data.getLsbD s.params.frRxfeBit = true) ∧ p.2.1.data.getLsbD s.params.frRxfeBit = false) ∧
        s.uartReplies = (bytes.flatMap fun p => p.1 ++ [p.2.1, p.2.2]).map .answer ++ []) ∧
    (let s := busyBench 0x10000004 ((List.replicate 16 [yes 0, yes 7]).flatten);
      let bytes : List (List Answer × Answer × Answer) := List.replicate 16 ([], ⟨.ack, 0⟩, ⟨.ack, 7⟩);
      begins (.uartRead 16) s = true ∧ bytes.length = 16 ∧
        (∀ p ∈ bytes, (∀ a ∈ p.1, a.data.getLsbD s.params.frRxfeBit = true) ∧ p.2.1.data.getLsbD s.params.frRxfeBit = false) ∧
        s.uartReplies = (bytes.flatMap fun p => p.1 ++ [p.2.1, p.2.2]).map .answer ++ []) := by decide

theorem witness_i2c_frame :
    (let s := busyBench 0x10003B06 [yes 0x20];
      s.phase = .start ∧ s.i2cDev ≠ 0 ∧ nextReply .i2c s = .answer ⟨.ack, 0x20⟩ ∧ s.params.nackIsFault = true) ∧
    (let s := { bench 0x02003B06 with i2cDev := 0 };
      s.phase = .start ∧ s.i2cDev = 0) ∧
    standsAt 0x02003B06 .i2c [.i2cAddress, .i2cRegister .ack, .i2cRegister .nack, .i2cRestart .ack, .i2cRestart .nack,
      .i2cReadAddress, .i2cReadFirst .ack, .i2cReadFirst .nack, .i2cByte 1, .i2cByte 2, .ended .busFault] = true ∧
    standsAt 0x00006B05 .i2c [.i2cAddress, .i2cRegister .ack, .i2cData .ack, .i2cData .nack, .i2cWritten .ack,
      .i2cWritten .nack, .ended .ok] = true := by decide

theorem witness_i2c_write_run : let s := busyBench 0x00006B05 (List.replicate 5 (yes 0))
    begins (.i2cWrite 0x6B 0x00) s = true ∧ s.i2cDev ≠ 0 ∧
      s.i2cReplies = (List.replicate 5 (⟨.ack, 0⟩ : Answer)).map .answer ++ [] := by decide

theorem witness_i2c_write_nack : let s := busyBench 0x00006B05 [yes 0, yes 0, .answer ⟨.nack, 0⟩, yes 0]
    begins (.i2cWrite 0x6B 0x00) s = true ∧ s.params.nackIsFault = true ∧ s.i2cDev ≠ 0 ∧
    s.i2cReplies = ((⟨.ack, 0⟩ : Answer) :: [(⟨.ack, 0⟩ : Answer)] ++ [(⟨.nack, 0⟩ : Answer), ⟨.ack, 0⟩]).map .answer ++ [] := by decide

theorem witness_i2c_read_run :
    (let s := busyBench 0x01003B06 (List.replicate 7 (yes 0x77));
      begins (.i2cRead 0x3B 1) s = true ∧ s.i2cDev ≠ 0 ∧
        s.i2cReplies = (List.replicate 5 (⟨.ack, 0x77⟩ : Answer) ++ [(⟨.ack, 0x77⟩ : Answer)] ++ [(⟨.ack, 0x77⟩ : Answer)]).map .answer ++ []) ∧
    (let s := busyBench 0x10003B06 (List.replicate 22 (yes 0x77));
      begins (.i2cRead 0x3B 16) s = true ∧ s.i2cDev ≠ 0 ∧
        s.i2cReplies =
          (List.replicate 5 (⟨.ack, 0x77⟩ : Answer) ++ List.replicate 16 (⟨.ack, 0x77⟩ : Answer) ++ [(⟨.ack, 0x77⟩ : Answer)]).map .answer ++ []) := by
  decide

/-- The answers of an I2C frame whose acknowledges are these. -/
def acked (as : List Ack) : List Answer := as.map fun a => ⟨a, 0x77⟩

theorem witness_i2c_read_nack :
    (let s := busyBench 0x10003B06 ((acked [.ack, .nack, .ack]).map .answer);
      begins (.i2cRead 0x3B 16) s = true ∧ s.i2cDev ≠ 0 ∧ s.params.nackIsFault = true ∧
        s.i2cReplies = (acked [.ack, .nack, .ack]).map .answer ++ []) ∧
    (let s := busyBench 0x10003B06 ((acked [.ack, .ack, .nack, .ack]).map .answer);
      begins (.i2cRead 0x3B 16) s = true ∧ s.i2cReplies = (acked [.ack, .ack, .nack, .ack]).map .answer ++ []) ∧
    (let s := busyBench 0x10003B06 ((acked [.ack, .ack, .ack, .ack, .nack, .ack]).map .answer);
      begins (.i2cRead 0x3B 16) s = true ∧ s.i2cReplies = (acked [.ack, .ack, .ack, .ack, .nack, .ack]).map .answer ++ []) := by
  decide

theorem witness_i2c_read_nack_ignored :
    let s := { busyBench 0x01003B06 ((acked [.ack, .nack, .nack, .ack, .nack, .ack, .ack]).map .answer) with
      params := { (bench 0).params with nackIsFault := false } }
    begins (.i2cRead 0x3B 1) s = true ∧ s.params.nackIsFault = false ∧ s.i2cDev ≠ 0 ∧
      s.i2cReplies = (acked [.ack, .nack, .nack, .ack, .nack] ++ acked [.ack] ++ acked [.ack]).map .answer ++ [] := by decide

theorem witness_spi_frame :
    standsAt 0x01000308 .spi [.spiInstr, .spiAddrHigh, .spiAddrLow, .spiData, .spiByte 0, .spiByte 1, .spiRelease, .ended .ok] =
      true ∧
    (let s := busyBench 0x10000308 [yes 0x20];
      s.phase = .start ∧ nextReply .spi s = .answer ⟨.ack, 0x20⟩) ∧
    ((bench 0x00000308).phase = .start ∧ (bench 0x1100050A).phase = .start) := by decide

theorem witness_spi_write_run :
    (let s := busyBench 0x005A0207 (List.replicate 6 (yes 0));
      begins (.spiWrite 0x02 0x5A) s = true ∧ s.spiReplies = (List.replicate 6 (⟨.ack, 0⟩ : Answer)).map .answer ++ []) ∧
    (let s := busyBench 0x00000609 (List.replicate 3 (yes 0));
      begins (.spiCmd 0x06) s = true ∧ s.spiReplies = (List.replicate 3 (⟨.ack, 0⟩ : Answer)).map .answer ++ []) := by decide

theorem witness_spi_read_run :
    (let s := busyBench 0x01000308 (List.replicate 6 (yes 0));
      begins (.spiRead 0x03 1) s = true ∧
        s.spiReplies = ((⟨.ack, 0⟩ : Answer) :: List.replicate 3 (⟨.ack, 0⟩ : Answer) ++ [(⟨.ack, 0⟩ : Answer)] ++ [(⟨.ack, 0⟩ : Answer)]).map .answer ++ []) ∧
    (let s := busyBench 0x1000050A (List.replicate 19 (yes 0));
      begins (.spiCmdr 0x05 16) s = true ∧
        s.spiReplies =
          ((⟨.ack, 0⟩ : Answer) :: [(⟨.ack, 0⟩ : Answer)] ++ List.replicate 16 (⟨.ack, 0⟩ : Answer) ++ [(⟨.ack, 0⟩ : Answer)]).map .answer ++ []) := by
  decide

theorem witness_never_ready : (0x02#8 &&& ~~~ 0x01#8) ≠ 0 := by decide

/-- A poll bench: POLL_TXN is `SPI.CMDR 0x05, 1`. -/
def pollBench (w : Word) (ps : PollState) (ph : Phase) : State :=
  { bench w with pollTxn := 0x0100050A, pollMax := 2, pollState := ps, phase := ph, spiReplies := [yes 0x01] }

theorem witness_txn_ok : ((pollBench 0x0D .idle .start).phase = .start ∧ txnOk (pollBench 0x0D .idle .start) = true) ∧
    (bench 0x0D).phase = .start ∧ txnOk (bench 0x0D) = false := by decide

theorem witness_poll_step :
    [PollState.idle, .evaluate, .ready, .retry, .timeout, .faulted].all
      (fun p => (pollBench 0x0E p .start).pollState == p && (pollBench 0x0E p .start).phase == .start) = true ∧
    (let s := bench 0x0E;
      s.phase = .start ∧ s.pollState = .idle ∧ s.pollMax.toNat ≤ s.pollAttempts.toNat) ∧
    (let s := { bench 0x0E with pollMax := 1 };
      s.phase = .start ∧ s.pollState = .idle ∧ s.pollAttempts.toNat < s.pollMax.toNat ∧ txnOk s = false) ∧
    (pollBench 0x0E .ready .pollEnd).phase = .pollEnd := by decide

theorem witness_poll_run_test :
    [PollState.idle, .evaluate, .ready, .retry, .timeout, .faulted].all
      (fun p => (pollBench 0x0F p .pollTest).pollState == p && (pollBench 0x0F p .pollTest).phase == .pollTest) = true ∧
    (let s := { pollBench 0x0F .idle .pollTest with pollAttempts := 2 };
      s.phase = .pollTest ∧ s.pollState = .idle ∧ s.pollMax.toNat ≤ s.pollAttempts.toNat) := by decide

theorem witness_attempt : statusTxn (pollBench 0x0E .idle .start) = some (.spiCmdr 0x05 1) ∧
    out (exec (.spiCmdr 0x05 1) { pollBench 0x0E .idle .start with phase := .txn .spiInstr }) (fun t => t.phase) =
      some (.txn (.spiByte 0)) := by decide

theorem witness_attempt_ok : exec (.spiCmdr 0x05 1) { pollBench 0x0E .idle .start with phase := .txn (.ended .ok) } =
    .next (completed .ok { pollBench 0x0E .idle .start with phase := .txn (.ended .ok) }) := rfl

theorem witness_attempt_fault : statusTxn { bench 0x0E with pollTxn := 0x01003B06 } = some (.i2cRead 0x3B 1) ∧
    exec (.i2cRead 0x3B 1) { bench 0x0E with pollTxn := 0x01003B06, phase := .txn (.ended .busFault) } =
      .next (completed .busFault { bench 0x0E with pollTxn := 0x01003B06, phase := .txn (.ended .busFault) }) := ⟨by decide, rfl⟩

theorem witness_attempt_begins :
    (let s := pollBench 0x0E .idle .start;
      nextReply .spi s = .answer ⟨.ack, 0x01⟩ ∧ s.pollState = .idle ∧ s.pollAttempts.toNat < s.pollMax.toNat ∧
        decode s.pollTxn = .ok (.spiCmdr 0x05 1) ∧ s.phase = .start) ∧
    (let s := { pollBench 0x0F .idle .pollTest with pollTxn := 0x01000308 };
      nextReply .spi s = .answer ⟨.ack, 0x01⟩ ∧ s.pollState = .idle ∧ s.pollAttempts.toNat < s.pollMax.toNat ∧
        decode s.pollTxn = .ok (.spiRead 0x03 1) ∧ s.phase = .pollTest) := by decide

theorem witness_attempt_begins_others :
    (let s := { pollBench 0x0E .idle .start with pollTxn := 0x01003B06, i2cReplies := [yes 0] };
      nextReply .i2c s = .answer ⟨.ack, 0⟩ ∧ s.pollState = .idle ∧ s.pollAttempts.toNat < s.pollMax.toNat ∧
        decode s.pollTxn = .ok (.i2cRead 0x3B 1) ∧ s.i2cDev ≠ 0 ∧ s.phase = .start) ∧
    (let s := { pollBench 0x0F .idle .pollTest with pollTxn := 0x01000004, uartReplies := [yes 0x10] };
      nextReply .uart s = .answer ⟨.ack, 0x10⟩ ∧ s.pollState = .idle ∧ s.pollAttempts.toNat < s.pollMax.toNat ∧
        decode s.pollTxn = .ok (.uartRead 1) ∧ s.phase = .pollTest) := by decide

/-- A bench with an accepted POLL.RUN, the status transaction i, MAX = n, ready for bytes with bit 0 set, and the answers of
these attempts listed. -/
def pollRunBench (i : Instr) (n : Nat) (ass : List (List Answer)) : State :=
  setReplies (busOf i) (ass.flatten.map .answer)
    { bench 0x0F with pollTxn := encode i, pollMax := BitVec.ofNat 16 n, pollMask := 0x01, pollMatch := 0x01 }

/-- The bench begins a POLL.RUN of i, every list of answers is one attempt that ends OK, and the status bytes are these. -/
def attemptsGive (i : Instr) (n : Nat) (ass : List (List Answer)) (bytes : List Byte) : Bool :=
  let s := pollRunBench i n ass
  begins .pollRun s && consistent s && statusTxn s == some i &&
    ass.map (fun as => (attemptOf s i as).map fun x => (x.answers, x.byte)) == List.zipWith (fun as b => some (as, b)) ass bytes

/-- The answers of one attempt of each status transaction, with the status byte b. -/
def oneAttempt (i : Instr) (b : Word) : List Answer :=
  match i with
  | .i2cRead _ _ => acked [.ack, .ack, .ack, .ack, .ack] ++ [⟨.ack, b⟩] ++ acked [.ack]
  | .spiRead _ _ => acked [.ack, .ack, .ack, .ack] ++ [⟨.ack, b⟩] ++ acked [.ack]
  | .spiCmdr _ _ => acked [.ack, .ack] ++ [⟨.ack, b⟩] ++ acked [.ack]
  | _ => [⟨.ack, 0x10⟩, ⟨.ack, 0x00⟩, ⟨.ack, b⟩]

/-- MAX = 0, 1 and 2, never ready; and ready at attempt k = 1 = MAX, at k = 1 < MAX, and at k = 2 = MAX. -/
theorem witness_poll_run_attempts :
    [Instr.i2cRead 0x3B 1, .spiRead 0x03 1, .spiCmdr 0x05 1, .uartRead 1].all (fun i =>
      attemptsGive i 0 [] [] && attemptsGive i 1 [oneAttempt i 2] [2] &&
        attemptsGive i 2 [oneAttempt i 2, oneAttempt i 4] [2, 4] && attemptsGive i 1 [oneAttempt i 1] [1] &&
        attemptsGive i 9 [oneAttempt i 3] [3] && attemptsGive i 2 [oneAttempt i 2, oneAttempt i 1] [2, 1]) = true ∧
    (let s := pollRunBench .nop 0 [];
      ready s 2 = false ∧ ready s 4 = false ∧ ready s 1 = true ∧ ready s 3 = true) := by decide

/-- The run of two UART attempts, three answers each: 2*(3 + 3) + 1 steps. -/
theorem witness_attempt_steps :
    attemptSteps [⟨oneAttempt (.uartRead 1) 2, [], 2⟩, ⟨oneAttempt (.uartRead 1) 4, [], 4⟩] + 1 = 13 := by decide

theorem witness_nacked_attempt :
    let s := pollRunBench (.i2cRead 0x3B 1) 2 [oneAttempt (.i2cRead 0x3B 1) 2, acked [.ack, .nack, .ack]]
    begins .pollRun s = true ∧ consistent s = true ∧ statusTxn s = some (.i2cRead 0x3B 1) ∧ 1 < s.pollMax.toNat ∧
      s.i2cReplies = (oneAttempt (.i2cRead 0x3B 1) 2 ++ acked [.ack, .nack, .ack]).map .answer ++ [] ∧
      nackedAttempt s 0x3B (acked [.ack, .nack, .ack]) = some [.i2cStart, .i2cWrite 0xD0 .nack, .i2cStop] ∧
      nackedAttempt s 0x3B (acked [.ack, .ack, .nack, .ack]) =
        some [.i2cStart, .i2cWrite 0xD0 .ack, .i2cWrite 0x3B .nack, .i2cStop] ∧
      nackedAttempt s 0x3B (acked [.ack, .ack, .ack, .ack, .nack, .ack]) =
        some [.i2cStart, .i2cWrite 0xD0 .ack, .i2cWrite 0x3B .ack, .i2cRstart, .i2cWrite 0xD1 .nack, .i2cStop] := by decide

theorem witness_poll_run : begins .pollRun (pollBench 0x0F .retry .start) = true ∧
    completes .spi (pollBench 0x0F .retry .start) = true ∧
    decode (pollBench 0x0F .retry .start).pollTxn = .ok (.spiCmdr 0x05 1) := by decide

theorem witness_poll_run_never_ready :
    let s := { pollBench 0x0F .retry .start with pollMask := 0x00, pollMatch := 0x01 }
    begins .pollRun s = true ∧ decode s.pollTxn = .ok (.spiCmdr 0x05 1) ∧ completes .spi s = true ∧
      ∀ b : Byte, ready s b = false := ⟨by decide, by decide, by decide, by decide⟩

theorem witness_consistent : consistent (pollBench 0x0F .evaluate .pollTest) = false ∧
    consistent { pollBench 0x0F .evaluate .pollTest with pollAttempts := 1 } = true ∧
    consistent (bench 0x00) = true ∧ consistent idleBench = true ∧
    consistent { benchAt 0x02003B06 (.i2cByte 1) with held := true, history := [.i2cStart] } = true := by decide

theorem witness_consistent_step : out (step { pollBench 0x0F .evaluate .pollTest with pollAttempts := 1, pollMask := 1, pollLast := 1 })
    (fun t => t.pollState) = some .retry := by decide

theorem witness_poll_outcomes :
    out (exec .pollRun { pollBench 0x0F .evaluate .pollTest with pollAttempts := 1 }) (fun t => t.pollState) = some .ready ∧
    out (exec .pollRun { pollBench 0x0F .evaluate .pollTest with pollAttempts := 2, pollMask := 1, pollLast := 1 })
      (fun t => t.pollState) = some .timeout ∧
    out (exec .pollRun { pollBench 0x0F .idle (.pollAttempt (.ended .busFault)) with pollTxn := 0x01003B06 })
      (fun t => (t.pollState, t.pollAttempts)) = some (.faulted, 1#16) ∧
    consistent { pollBench 0x0F .idle (.pollAttempt (.ended .busFault)) with pollTxn := 0x01003B06 } = true := by decide

theorem witness_evaluate_entered :
    let s := { pollBench 0x0F .idle (.pollAttempt (.ended .ok)) with rxbuf := (Vector.replicate 16 0).set 0 7 }
    consistent s = true ∧ s.busy = true ∧ decode s.cur = .ok .pollRun ∧
      out (exec .pollRun s) (fun t => (t.pollState, t.pollLast, t.pollAttempts)) = some (.evaluate, 7#8, 1#16) := by decide

/-- A poll attempt on I2C whose first written byte is NACKed: the answer, the check, the end. -/
theorem witness_nack_chain :
    let s := { pollBench 0x0F .idle (.pollAttempt .i2cAddress) with
      pollTxn := 0x01003B06, held := true, history := [.i2cStart], i2cReplies := [.answer ⟨.nack, 0⟩] }
    let u := { s with phase := .pollAttempt (.i2cRegister .nack), i2cReplies := [yes 0] }
    consistent s = true ∧ consistent u = true ∧ s.params.nackIsFault = true ∧
      out (exec .pollRun s) (fun t => (t.phase, t.history)) =
        some (.pollAttempt (.i2cRegister .nack), [.i2cStart, .i2cWrite 0xD0 .nack]) ∧
      out (exec .pollRun u) (fun t => t.phase) = some (.pollAttempt (.ended .busFault)) := by decide

/-- MAX lowered between two POLL.STEPs: Timeout is entered from Idle, after a byte that was not ready. -/
theorem witness_timeout_from_idle :
    let s := { pollBench 0x0E .idle .start with pollAttempts := 1, pollMax := 1, pollMask := 1, pollLast := 1 }
    consistent s = true ∧ s.busy = true ∧ decode s.cur = .ok .pollStep ∧ ready s s.pollLast = false ∧
      out (exec .pollStep s) (fun t => t.pollState) = some .timeout := by decide

/-- Two attempts at MAX = 2: one back edge. -/
theorem witness_retry_edges :
    let s := pollRunBench (.spiCmdr 0x05 1) 2 [oneAttempt (.spiCmdr 0x05 1) 2, oneAttempt (.spiCmdr 0x05 1) 4]
    begins .pollRun s = true ∧ retryEdges 15 s = 1 := by decide

theorem witness_refused : out (step { idleBench with agenda := [.host ⟨0x4002, 4, none⟩] }) (fun t => t.busy) = none ∧
    step { idleBench with agenda := [.host ⟨0x4002, 4, none⟩] } = .refused .hostAlignment ∧
    step { idleBench with params := { idleBench.params with uartCrOff := 0x31 } } = .refused .parameterAlignment := ⟨by decide, rfl, rfl⟩

/-- A host access without meaning as the first turn: width, below the window, past its end, misaligned. The last register
access inside the window has a step. -/
theorem witness_meaningless_turn :
    [(⟨0x4000, 2, none⟩ : HostAccess), ⟨0x3FFC, 4, none⟩, ⟨0x4100, 4, none⟩, ⟨0x40FE, 4, some 0⟩].all (fun a =>
      let s := { idleBench with agenda := [.host a] }
      s.params.aligned && consistent s && s.agenda == .host a :: [] && (out (step s) fun t => t.busy) == none &&
        !(a.bytes == 4 && s.params.blockBase ≤ a.addr && a.addr < s.params.blockBase + 0x100 &&
          (a.addr - s.params.blockBase) % 4 == 0)) = true ∧
    out (step { idleBench with agenda := [.host ⟨0x40FC, 4, none⟩] }) (fun t => t.busy) = some false := by decide

theorem witness_completion : consistent (bench 0x00) = true ∧ decode (bench 0x00).cur = .ok .nop ∧
    out (exec .nop (bench 0x00)) (fun t => t.busy) = some false := by decide

theorem witness_busy_next : out (exec (.spiCmd 0x06) (busyBench 0x00000609 [yes 0])) (fun t => (t.busy, t.history)) =
    some (true, [.csAssert]) := by decide

theorem witness_writers :
    out (exec .baudCalc { bench 0x01 with clkHz := 16, baud := 1 }) (fun t => t.ibrd) = some 1#16 ∧
    out (exec (.asm16 0) { bench 0x0B with rxbuf := Vector.replicate 16 1 }) (fun t => t.asmv) = some 0x0101#16 ∧
    out (exec .asmSample { bench 0x0C with rxbuf := Vector.replicate 16 1 }) (fun t => t.ch[0]) = some 0x0101#16 ∧
    out (exec (.spiCmd 0x06) (busyBench 0x00000609 [yes 0])) (fun t => t.cs) = some true ∧
    out (exec (.i2cWrite 0x6B 0) (busyBench 0x00006B05 [yes 0])) (fun t => t.held) = some true := by decide

/-- A poll moves the line of its own status transaction. -/
theorem witness_poll_lines :
    out (exec .pollRun (pollBench 0x0F .idle .pollTest)) (fun t => (t.cs, t.held)) = some (true, false) ∧
    out (exec .pollRun { pollBench 0x0F .idle .pollTest with pollTxn := 0x01003B06, i2cReplies := [yes 0] })
      (fun t => (t.cs, t.held)) = some (false, true) := by decide

theorem witness_rxbuf_write :
    let s := { benchAt 0x0100050A (.spiByte 0) with spiReplies := [yes 0x03], cs := true, history := [.csAssert] }
    consistent s = true ∧ s.busy = true ∧ decode s.cur = .ok (.spiCmdr 0x05 1) ∧ rxByte s 0 = 0 ∧
      out (exec (.spiCmdr 0x05 1) s) (fun t => rxByte t 0) = some 0x03#8 := by decide

end Sys2Proof.Tests
end

section
/-! Rules about the host port: which register stands at an offset, and what one write to the window does (R30, R71 to R73,
R130, R131). -/

namespace Sys2Proof.Machine

theorem regOffset_lt (r : HostReg) : regOffset r < 0x50 := by
  cases r <;> decide

theorem regOffset_mod_four (r : HostReg) : regOffset r % 4 = 0 := by
  cases r <;> rfl

@[simp] theorem regAt_regOffset (r : HostReg) : regAt (regOffset r) = some r := by
  cases r <;> rfl

theorem regOffset_of_regAt {off : Nat} {r : HostReg} (h : regAt off = some r) : regOffset r = off := by
  simpa using List.find?_some h

/-- The offsets from 0x50 on are reserved (R30). -/
theorem regAt_reserved {off : Nat} (h : 0x50 ≤ off) : regAt off = none := by
  refine List.find?_eq_none.mpr fun r _ => ?_
  have := regOffset_lt r
  simp only [beq_iff_eq]
  omega

@[simp] theorem writeWindow_regOffset (r : HostReg) (v : Word) (s : State) :
    writeWindow (regOffset r) v s = writeReg r v s := by
  simp [writeWindow]

theorem writeWindow_reserved {off : Nat} (h : 0x50 ≤ off) (v : Word) (s : State) : writeWindow off v s = s := by
  simp [writeWindow, regAt_reserved h]

/-- A write at a word offset of the window takes place and is recorded (R71, log 9). -/
theorem hostStep_hostWriteAt {off : Nat} (hw : off < 0x100) (ha : off % 4 = 0) (v : Word) (s : State) :
    hostStep (hostWriteAt off v s) s = .next (record (.hostWrite off v) (writeWindow off v s)) := by
  simp [hostStep, hostWriteAt, Config.windowSize, ha, hw]

/-- A write at a register's offset is a write to that register. -/
theorem hostStep_write_reg (r : HostReg) (v : Word) (s : State) :
    hostStep (hostWriteAt (regOffset r) v s) s = .next (record (.hostWrite (regOffset r) v) (writeReg r v s)) := by
  have := regOffset_lt r
  rw [hostStep_hostWriteAt (by omega) (regOffset_mod_four r), writeWindow_regOffset]

/-- `writable` names CMD and the RW registers of R131. -/
theorem writable_eq_mem (r : HostReg) :
    writable r = decide (r ∈ [.cmd, .i2cDev, .maddr, .clkHz, .baud, .uartLcr, .uartCr, .pollCfg, .pollTxn]) := by
  cases r <;> decide

theorem writeReg_idle {s : State} (hb : s.busy = false) (r : HostReg) (v : Word) : writeReg r v s = storeReg r v s := by
  simp [writeReg, hb]

/-- A store to any register but CMD keeps REJECT. -/
theorem storeReg_reject {r : HostReg} (hr : r ≠ .cmd) (v : Word) (s : State) : (storeReg r v s).reject = s.reject := by
  cases r with
  | cmd => exact absurd rfl hr
  | _ => rfl

/-- A write to a register clears REJECT only where it accepts a command (R131). -/
theorem writeReg_clears_reject {r : HostReg} {v : Word} {s : State} (hs : s.reject = true)
    (ht : (writeReg r v s).reject = false) : r = .cmd ∧ s.busy = false := by
  cases hb : s.busy with
  | true =>
    rw [writeReg_busy hb] at ht
    split at ht <;> simp_all
  | false =>
    rw [writeReg_idle hb] at ht
    refine ⟨?_, rfl⟩
    by_contra hr
    rw [storeReg_reject hr, hs] at ht
    contradiction

/-- A write into the window clears REJECT only at CMD, and then it accepts its word (R130, R131). -/
theorem writeWindow_clears_reject {off : Nat} {v : Word} {s : State} (hs : s.reject = true)
    (ht : (writeWindow off v s).reject = false) : off = 0 ∧ s.busy = false ∧ writeWindow off v s = accept v s := by
  cases hr : regAt off with
  | none => simp [writeWindow, hr, hs] at ht
  | some r =>
    obtain rfl := regOffset_of_regAt hr
    rw [writeWindow_regOffset] at ht ⊢
    obtain ⟨rfl, hb⟩ := writeReg_clears_reject hs ht
    exact ⟨rfl, hb, writeReg_idle hb .cmd v⟩

/-- A write to a register while BUSY = 1, with the whole next state (R131). -/
theorem hostStep_write_busy {s : State} (hb : s.busy = true) (r : HostReg) (v : Word) :
    hostStep (hostWriteAt (regOffset r) v s) s =
      .next { s with reject := s.reject || writable r, history := s.history ++ [.hostWrite (regOffset r) v] } := by
  rw [hostStep_write_reg, writeReg_busy hb]
  cases writable r <;> simp [record]

/-- A host access that clears REJECT is the accepted write to CMD (R131). -/
theorem hostStep_clears_reject {a : HostAccess} {s t : State} (h : hostStep a s = .next t) (hs : s.reject = true)
    (ht : t.reject = false) : ∃ v, a = hostWriteAt 0x00 v s ∧ s.busy = false ∧ t.cur = v ∧ t.busy = true := by
  obtain ⟨hbytes, hbase, -, -, ⟨-, rfl⟩ | ⟨v, hv, rfl⟩⟩ := hostStep_cases h
  · simp [hs] at ht
  · obtain ⟨hoff, hb, hacc⟩ := writeWindow_clears_reject hs ht
    refine ⟨v, ?_, hb, by rw [hacc]; rfl, by rw [hacc]; rfl⟩
    obtain ⟨addr, bytes, value⟩ := a
    obtain rfl : addr = s.params.blockBase := Nat.le_antisymm (Nat.sub_eq_zero_iff_le.mp hoff) hbase
    simp only at hbytes hv
    rw [hbytes, hv]
    rfl

end Sys2Proof.Machine
end

section
/-! What only the host writes: no step of the sequencer changes CUR, REJECT, a configuration register, the parameters or
the agenda (R96, R131). Said once for every shared operation, then for every command. -/

namespace Sys2Proof.Machine

/-- The part of the state that no sequencer step writes. -/
structure HostOwned where
  cur : Word
  reject : Bool
  i2cDev : BitVec 7
  maddr : Half
  clkHz : Word
  baud : Word
  uartLcr : Word
  uartCr : Word
  pollMask : Byte
  pollMatch : Byte
  pollMax : Half
  pollTxn : Word
  params : Params
  agenda : List Turn

def hostOwned (s : State) : HostOwned where
  cur := s.cur
  reject := s.reject
  i2cDev := s.i2cDev
  maddr := s.maddr
  clkHz := s.clkHz
  baud := s.baud
  uartLcr := s.uartLcr
  uartCr := s.uartCr
  pollMask := s.pollMask
  pollMatch := s.pollMatch
  pollMax := s.pollMax
  pollTxn := s.pollTxn
  params := s.params
  agenda := s.agenda

@[simp] theorem hostOwned_goto (p : Phase) (s : State) : hostOwned (goto p s) = hostOwned s := rfl
@[simp] theorem hostOwned_complete (r : Result) (s : State) : hostOwned (complete r s) = hostOwned s := rfl
@[simp] theorem hostOwned_setDivisor (i f : Nat) (s : State) : hostOwned (setDivisor i f s) = hostOwned s := rfl
@[simp] theorem hostOwned_armPoll (s : State) : hostOwned (armPoll s) = hostOwned s := rfl
@[simp] theorem hostOwned_popReply (b : Bus) (s : State) : hostOwned (popReply b s) = hostOwned s := by
  simp [hostOwned]
@[simp] theorem hostOwned_attemptDone (r : Result) (after : Phase) (s : State) :
    hostOwned (attemptDone r after s) = hostOwned s := by
  cases r <;> rfl

/-- Wherever a transaction gets from s, the host's part is that of s. -/
def Progress.Keeps (s : State) : Progress → Prop
  | .reached _ t => hostOwned t = hostOwned s
  | .waits t => hostOwned t = hostOwned s
  | .ended _ => True
  | .stray => True

@[simp] theorem keeps_reached (s t : State) (p : Pos) :
    (Progress.reached p t).Keeps s ↔ hostOwned t = hostOwned s := .rfl
@[simp] theorem keeps_waits (s t : State) : (Progress.waits t).Keeps s ↔ hostOwned t = hostOwned s := .rfl
@[simp] theorem keeps_ended (s : State) (r : Result) : (Progress.ended r).Keeps s := trivial
@[simp] theorem keeps_stray (s : State) : Progress.stray.Keeps s := trivial

/-- A next state that is answered from s has the host's part of s. -/
def OutKeeps (s : State) (o : Out) : Prop := ∀ t, o = .next t → hostOwned t = hostOwned s

@[simp] theorem outKeeps_next (s t : State) : OutKeeps s (.next t) ↔ hostOwned t = hostOwned s := by
  simp [OutKeeps]
@[simp] theorem outKeeps_fault (s : State) (f : Fault) : OutKeeps s (.fault f) := by
  simp [OutKeeps]

/-! ### The primitives -/

theorem onBus_keeps {b : Bus} {s : State} {k : Answer → State → Progress}
    (hk : ∀ a t, hostOwned t = hostOwned s → (k a t).Keeps s) : (onBus b s k).Keeps s := by
  obtain ⟨a, -, e⟩ | ⟨-, e⟩ := onBus_cases b s k
  · rw [e]; exact hk a _ (hostOwned_popReply b s)
  · rw [e]; exact hostOwned_popReply b s

@[simp] theorem i2cStart_keeps (next : Pos) (s : State) : (i2cStart next s).Keeps s :=
  onBus_keeps fun _ _ h => h
@[simp] theorem i2cRstart_keeps (next : Pos) (s : State) : (i2cRstart next s).Keeps s :=
  onBus_keeps fun _ _ h => h
@[simp] theorem i2cWrite_keeps (b : Byte) (next : Ack → Pos) (s : State) : (i2cWrite b next s).Keeps s :=
  onBus_keeps fun _ _ h => h
@[simp] theorem i2cRead_keeps (i : Nat) (last : Bool) (next : Pos) (s : State) : (i2cRead i last next s).Keeps s :=
  onBus_keeps fun _ _ h => h
@[simp] theorem i2cStop_keeps (next : Pos) (s : State) : (i2cStop next s).Keeps s :=
  onBus_keeps fun _ _ h => h
@[simp] theorem csAssert_keeps (next : Pos) (s : State) : (csAssert next s).Keeps s :=
  onBus_keeps fun _ _ h => h
@[simp] theorem csDeassert_keeps (next : Pos) (s : State) : (csDeassert next s).Keeps s :=
  onBus_keeps fun _ _ h => h
@[simp] theorem spiSend_keeps (out : Byte) (next : Pos) (s : State) : (spiSend out next s).Keeps s :=
  onBus_keeps fun _ _ h => h
@[simp] theorem spiReceive_keeps (i : Nat) (next : Pos) (s : State) : (spiReceive i next s).Keeps s :=
  onBus_keeps fun _ _ h => h
@[simp] theorem uartReadFlags_keeps (next : Word → Pos) (s : State) : (uartReadFlags next s).Keeps s :=
  onBus_keeps fun _ _ h => h
@[simp] theorem uartReceive_keeps (i : Nat) (next : Pos) (s : State) : (uartReceive i next s).Keeps s :=
  onBus_keeps fun _ _ h => h

theorem uartWriteReg_keeps {upd : State → State} (hu : ∀ t, hostOwned (upd t) = hostOwned t) (off : Nat) (v : Word)
    (next : Pos) (s : State) : (uartWriteReg off v upd next s).Keeps s :=
  onBus_keeps fun _ t h => (hu t).trans h

@[simp] theorem uartWriteReg_id_keeps (off : Nat) (v : Word) (next : Pos) (s : State) :
    (uartWriteReg off v id next s).Keeps s :=
  uartWriteReg_keeps (fun _ => rfl) off v next s

theorem checkAck_keeps {g : Progress} {s : State} (a : Ack) (hg : g.Keeps s) : (checkAck a s g).Keeps s := by
  obtain ⟨-, -, e⟩ | ⟨-, e⟩ := checkAck_cases a s g
  · rw [e]; exact i2cStop_keeps _ s
  · rwa [e]

/-! ### The transactions, marker by marker -/

@[simp] theorem i2cReadNext_keeps (len i : Nat) (s : State) : (i2cReadNext len i s).Keeps s := by
  unfold i2cReadNext
  split <;> simp

@[simp] theorem spiReadNext_keeps (len i : Nat) (s : State) : (spiReadNext len i s).Keeps s := by
  unfold spiReadNext
  split <;> simp

@[simp] theorem i2cWriteStep_keeps (reg d8 : Byte) (p : Pos) (s : State) : (i2cWriteStep reg d8 p s).Keeps s := by
  unfold i2cWriteStep
  split <;> simp [checkAck_keeps]

@[simp] theorem i2cReadStep_keeps (reg : Byte) (len : Nat) (p : Pos) (s : State) : (i2cReadStep reg len p s).Keeps s := by
  unfold i2cReadStep
  split <;> simp [checkAck_keeps]

@[simp] theorem spiWriteStep_keeps (instr d8 : Byte) (p : Pos) (s : State) : (spiWriteStep instr d8 p s).Keeps s := by
  unfold spiWriteStep
  split <;> simp

@[simp] theorem spiReadStep_keeps (instr : Byte) (len : Nat) (p : Pos) (s : State) :
    (spiReadStep instr len p s).Keeps s := by
  unfold spiReadStep
  split <;> simp

@[simp] theorem spiCmdStep_keeps (instr : Byte) (p : Pos) (s : State) : (spiCmdStep instr p s).Keeps s := by
  unfold spiCmdStep
  split <;> simp

@[simp] theorem spiCmdrStep_keeps (instr : Byte) (len : Nat) (p : Pos) (s : State) :
    (spiCmdrStep instr len p s).Keeps s := by
  unfold spiCmdrStep
  split <;> simp

@[simp] theorem uartInitStep_keeps (p : Pos) (s : State) : (uartInitStep p s).Keeps s := by
  unfold uartInitStep
  split <;> simp

@[simp] theorem uartWriteStep_keeps (d8 : Byte) (p : Pos) (s : State) : (uartWriteStep d8 p s).Keeps s := by
  unfold uartWriteStep
  split
  case h_2 => split <;> simp
  all_goals simp

@[simp] theorem uartReadStep_keeps (len : Nat) (p : Pos) (s : State) : (uartReadStep len p s).Keeps s := by
  unfold uartReadStep
  split
  case h_2 => split <;> simp
  case h_3 => split <;> simp
  all_goals simp

@[simp] theorem statusStep_keeps (p : Pos) (s : State) : (statusStep p s).Keeps s := by
  unfold statusStep
  split <;> simp

/-! ### The sequencer steps -/

theorem settle_keeps {g : Progress} {s : State} (hg : g.Keeps s) : OutKeeps s (settle g s) := by
  cases g with
  | reached p t => simpa [settle] using hg
  | waits t => simpa [settle] using hg
  | ended r => simp [settle]
  | stray => simp [settle]

theorem atStart_keeps {s : State} {o : Out} (ho : OutKeeps s o) : OutKeeps s (atStart s o) :=
  fun t h => ho t (atStart_next h).2

theorem framed_keeps {s : State} {enter : Out} {next : Pos → State → Progress} (he : OutKeeps s enter)
    (hn : ∀ p, (next p s).Keeps s) : OutKeeps s (framed s enter next) := by
  intro t h
  obtain ⟨-, h⟩ | ⟨p, -, h⟩ := framed_next h
  · exact he t h
  · exact settle_keeps (hn p) t h

theorem attemptStep_keeps (after : Phase) (p : Pos) (s : State) : OutKeeps s (attemptStep after p s) := by
  have hg := statusStep_keeps p s
  unfold attemptStep
  generalize statusStep p s = g at hg ⊢
  cases g with
  | reached q t => simpa using hg
  | waits t => simpa using hg
  | ended r => simp
  | stray => simp

/-- The poller's transition writes POLL_INFO and the phase, or takes a step of the attempt (R252). -/
theorem transition_keeps (after : Phase) (s : State) : OutKeeps s (transition after s) := by
  unfold transition
  cases s.pollState with
  | idle =>
    simp only
    split
    · exact (outKeeps_next s _).mpr rfl
    · exact attemptStep_keeps after .first s
  | evaluate => exact (outKeeps_next s _).mpr rfl
  | retry => exact (outKeeps_next s _).mpr rfl
  | ready => exact outKeeps_fault s _
  | timeout => exact outKeeps_fault s _
  | faulted => exact outKeeps_fault s _

theorem execNop_keeps (s : State) : OutKeeps s (execNop s) :=
  atStart_keeps (by simp)

theorem execBaudCalc_keeps (s : State) : OutKeeps s (execBaudCalc s) :=
  atStart_keeps (by split <;> simp)

theorem execUartInit_keeps (s : State) : OutKeeps s (execUartInit s) := by
  refine framed_keeps ?_ fun p => uartInitStep_keeps p s
  split
  · simp
  · exact settle_keeps (uartWriteReg_keeps (hostOwned_setDivisor _ _) ..)

theorem execUartWrite_keeps (d8 : Byte) (s : State) : OutKeeps s (execUartWrite d8 s) :=
  framed_keeps (settle_keeps (by simp)) (by simp)

theorem execUartRead_keeps (len : Nat) (s : State) : OutKeeps s (execUartRead len s) :=
  framed_keeps (by split <;> simp [settle_keeps]) (by simp)

theorem execI2cWrite_keeps (reg d8 : Byte) (s : State) : OutKeeps s (execI2cWrite reg d8 s) :=
  framed_keeps (by split <;> simp [settle_keeps]) (by simp)

theorem execI2cRead_keeps (reg : Byte) (len : Nat) (s : State) : OutKeeps s (execI2cRead reg len s) :=
  framed_keeps (by split_ifs <;> simp [settle_keeps]) (by simp)

theorem execSpiWrite_keeps (instr d8 : Byte) (s : State) : OutKeeps s (execSpiWrite instr d8 s) :=
  framed_keeps (settle_keeps (by simp)) (by simp)

theorem execSpiRead_keeps (instr : Byte) (len : Nat) (s : State) : OutKeeps s (execSpiRead instr len s) :=
  framed_keeps (by split <;> simp [settle_keeps]) (by simp)

theorem execSpiCmd_keeps (instr : Byte) (s : State) : OutKeeps s (execSpiCmd instr s) :=
  framed_keeps (settle_keeps (by simp)) (by simp)

theorem execSpiCmdr_keeps (instr : Byte) (len : Nat) (s : State) : OutKeeps s (execSpiCmdr instr len s) :=
  framed_keeps (by split <;> simp [settle_keeps]) (by simp)

theorem execAsm16_keeps (k : Nat) (s : State) : OutKeeps s (execAsm16 k s) :=
  atStart_keeps (by split <;> exact (outKeeps_next s _).mpr rfl)

theorem execAsmSample_keeps (s : State) : OutKeeps s (execAsmSample s) :=
  atStart_keeps ((outKeeps_next s _).mpr rfl)

theorem execPollInit_keeps (s : State) : OutKeeps s (execPollInit s) :=
  atStart_keeps (by split <;> simp)

theorem execPollStep_keeps (s : State) : OutKeeps s (execPollStep s) := by
  unfold execPollStep
  split
  · split_ifs <;> simp [transition_keeps]
  · exact attemptStep_keeps _ _ s
  · simp
  · simp

theorem execPollRun_keeps (s : State) : OutKeeps s (execPollRun s) := by
  unfold execPollRun
  split
  · split <;> simp
  · split <;> simp [transition_keeps]
  · exact attemptStep_keeps _ _ s
  · simp

/-- No command writes what the host owns. -/
theorem exec_keeps (i : Instr) (s : State) : OutKeeps s (exec i s) := by
  cases i with
  | nop => exact execNop_keeps s
  | baudCalc => exact execBaudCalc_keeps s
  | uartInit => exact execUartInit_keeps s
  | uartWrite d8 => exact execUartWrite_keeps d8 s
  | uartRead len => exact execUartRead_keeps len s
  | i2cWrite reg d8 => exact execI2cWrite_keeps reg d8 s
  | i2cRead reg len => exact execI2cRead_keeps reg len s
  | spiWrite instr d8 => exact execSpiWrite_keeps instr d8 s
  | spiRead instr len => exact execSpiRead_keeps instr len s
  | spiCmd instr => exact execSpiCmd_keeps instr s
  | spiCmdr instr len => exact execSpiCmdr_keeps instr len s
  | asm16 k => exact execAsm16_keeps k s
  | asmSample => exact execAsmSample_keeps s
  | pollInit => exact execPollInit_keeps s
  | pollStep => exact execPollStep_keeps s
  | pollRun => exact execPollRun_keeps s

/-- No sequencer step writes what the host owns. -/
theorem hostOwned_sequencerStep {s t : State} (h : sequencerStep s = .next t) : hostOwned t = hostOwned s := by
  obtain ⟨-, rfl⟩ | ⟨-, i, -, h⟩ | ⟨-, -, -, rfl⟩ := sequencerStep_cases h
  · rfl
  · exact exec_keeps i s t h
  · rfl

end Sys2Proof.Machine
end

section
/-! The words with OP = 0, and the sequencer's step on an illegal word (R105, R133, R138). -/

namespace Sys2Proof.Machine

/-- The row of NOP uses no field, so a word with OP = 0 that decodes is the word 0 (R103, R104). -/
theorem decode_op_zero {w : Word} (h0 : opField w = 0) (hw : w ≠ 0) : decode w = .error (illegalReason w) := by
  have hf : ¬ (rsv0Field w = 0 ∧ rsv1Field w = 0 ∧ a8Field w = 0 ∧ d8Field w = 0 ∧ lenField w = 0) := by
    rintro ⟨hr0, hr1, ha, hd, hl⟩
    exact hw ((word_eq_iff w 0).mpr ⟨h0, hr0, ha, hd, hl, hr1⟩)
  rw [decode_eq_fields, h0, if_neg fun h => hf h.2]
  simp

theorem sequencerStep_illegal {s : State} {e : Illegal} (hb : s.busy = true) (hp : s.phase = .start)
    (hd : decode s.cur = .error e) : sequencerStep s = .next (complete .illegalCommand s) := by
  simp [sequencerStep, hb, hd, illegalCommand, atStart_start hp]

end Sys2Proof.Machine
end

section
/-! The obligations of 40_control.md. -/

namespace Sys2Proof.Machine

/-- Settles O9: a write to CMD with BUSY = 0 stores by `accept`. -/
theorem writeToCmdAcceptsTheCommand : Obligations.WriteToCmdAcceptsTheCommand := by
  intro w s hb
  refine ⟨s.history ++ [.hostWrite 0x00 w], ?_⟩
  have h := hostStep_write_reg .cmd w s
  rw [writeReg_idle hb] at h
  exact h

/-- Settles O10: the write rules of the window while BUSY = 1, REJECT as part of what no sequencer step writes, and the one
store that clears it. -/
theorem writesWhileBusyOnlySetReject : Obligations.WritesWhileBusyOnlySetReject := by
  refine ⟨fun r v s hb => ?_, fun k v s hk hk' => ?_, fun s t h => ?_, fun a s t => hostStep_clears_reject⟩
  · rw [← writable_eq_mem]
    exact ⟨_, hostStep_write_busy hb r v⟩
  · refine ⟨s.history ++ [.hostWrite (4 * k) v], ?_⟩
    rw [hostStep_hostWriteAt (by omega) (by omega), writeWindow_reserved (by omega)]
    rfl
  · exact congrArg HostOwned.reject (hostOwned_sequencerStep h)

/-- Settles O21: NOP completes at its start, and a nonzero word with OP = 0 selects no row. -/
theorem nopCompletes : Obligations.NopCompletes := by
  refine ⟨fun s hp => atStart_start hp _, by decide, fun s h0 hw hb hp => ?_⟩
  have hd := decode_op_zero h0 hw
  exact ⟨⟨_, hd⟩, sequencerStep_illegal hb hp hd⟩

end Sys2Proof.Machine
end

section
/-! The divisor (R151, R152): its validity test on any pair, on the two parts of N, and the divisor by the range of N. -/

namespace Sys2Proof.Machine

/-- R152, as written there. -/
theorem divisorValid_iff {i f : Nat} : divisorValid i f = true ↔ 1 ≤ i ∧ i ≤ 65535 ∧ ¬ (i = 65535 ∧ f ≠ 0) := by
  unfold divisorValid Config.ibrdMax
  simp [and_assoc, imp_iff_not_or]

/-- The largest valid N is 65535 * 64 = 4194240: above it, F is nonzero at I = 65535, or I is larger (R152). -/
theorem divisorValid_parts_iff {n : Nat} : divisorValid (n / 64) (n % 64) = true ↔ 64 ≤ n ∧ n ≤ 4194240 := by
  rw [divisorValid_iff]
  omega

/-- R151, by the range of N. -/
theorem divisor_eq_of_range (clk baud : Nat) :
    divisor clk baud =
      if baud = 0 then none
      else if 64 ≤ divisorUnits clk baud ∧ divisorUnits clk baud ≤ 4194240 then
        some (divisorUnits clk baud / 64, divisorUnits clk baud % 64)
      else none := by
  simp only [divisor, divisorValid_parts_iff]

end Sys2Proof.Machine
end

section
/-! The obligations of 41_uart_baud.md. -/

namespace Sys2Proof.Machine

/-- Settles O23: the three rules of the divisor; `divisorUnits` is N of R151. -/
theorem divisorIsValidFrom64To4194240 : Obligations.DivisorIsValidFrom64To4194240 :=
  ⟨divisor_eq_of_range, fun _ => divisorValid_parts_iff, fun _ _ => divisorValid_iff⟩

end Sys2Proof.Machine
end

section
/-! The 16-bit reconstruction (R231): the value, the sign and the two bytes of `raw16`, and the value, the range and the
sign of `signed16`. -/

namespace Sys2Proof.Machine

theorem raw16_toNat (h l : Byte) : (raw16 h l).toNat = 256 * h.toNat + l.toNat :=
  calc (raw16 h l).toNat
    _ = h.toNat <<< 8 ||| l.toNat := BitVec.toNat_append h l
    _ = h.toNat <<< 8 + l.toNat := (Nat.shiftLeft_add_eq_or_of_lt l.isLt h.toNat).symm
    _ = 256 * h.toNat + l.toNat := by rw [Nat.shiftLeft_eq, Nat.mul_comm]

/-- The sign bit of the pattern is bit 7 of the high byte. -/
theorem raw16_msb (h l : Byte) : (raw16 h l).msb = h.getLsbD 7 :=
  calc (raw16 h l).msb
    _ = h.msb := BitVec.msb_append
    _ = h.getLsbD 7 := BitVec.msb_eq_getLsbD_last h

/-- The pattern keeps the high byte in its upper half. -/
theorem extractLsb'_raw16_high (h l : Byte) : (raw16 h l).extractLsb' 8 8 = h :=
  BitVec.extractLsb'_append_eq_left

/-- The pattern keeps the low byte in its lower half. -/
theorem extractLsb'_raw16_low (h l : Byte) : (raw16 h l).extractLsb' 0 8 = l :=
  BitVec.extractLsb'_append_eq_right

/-- Every pattern is the pair of its own two halves. -/
theorem raw16_extractLsb' (v : Half) : raw16 (v.extractLsb' 8 8) (v.extractLsb' 0 8) = v :=
  BitVec.extractLsb'_append_extractLsb' (w := 8) (len := 8)

theorem raw16_inj {h l h' l' : Byte} (e : raw16 h l = raw16 h' l') : h = h' ∧ l = l' := by
  constructor
  · rw [← extractLsb'_raw16_high h l, e, extractLsb'_raw16_high]
  · rw [← extractLsb'_raw16_low h l, e, extractLsb'_raw16_low]

/-- R231: two's complement on 16 bits. -/
theorem signed16_eq (v : Half) : signed16 v = if v.msb then (v.toNat : Int) - 65536 else v.toNat :=
  BitVec.toInt_eq_msb_cond v

theorem neg_32768_le_signed16 (v : Half) : -32768 ≤ signed16 v := BitVec.le_toInt v

theorem signed16_le_32767 (v : Half) : signed16 v ≤ 32767 := BitVec.toInt_le

theorem signed16_neg_iff (v : Half) : signed16 v < 0 ↔ v.msb = true := by
  rw [signed16, BitVec.msb_eq_toInt, decide_eq_true_iff]

end Sys2Proof.Machine
end

section
/-! The obligations of 44_assemble.md. -/

namespace Sys2Proof.Machine

/-- Settles O26: each law of R231 is one of the facts above, read at the pattern of the pair; the sign bit of that pattern
is bit 7 of the high byte. -/
theorem sampleReconstructionIsExact : Obligations.SampleReconstructionIsExact := by
  intro h l
  have value : signed16 (raw16 h l) =
      if h.getLsbD 7 then (256 * h.toNat + l.toNat : Int) - 65536 else (256 * h.toNat + l.toNat : Int) := by
    rw [signed16_eq, raw16_msb, raw16_toNat]
    push_cast
    rfl
  have sign : signed16 (raw16 h l) < 0 ↔ h.getLsbD 7 = true := by
    rw [signed16_neg_iff, raw16_msb]
  exact ⟨raw16_toNat h l, value, fun _ _ => raw16_inj, fun v => ⟨_, _, raw16_extractLsb' v⟩,
    neg_32768_le_signed16 _, signed16_le_32767 _, sign⟩

end Sys2Proof.Machine
end

section
/-! The ready predicate of a poll (R250). -/

namespace Sys2Proof.Machine

/-- The model's Boolean test as the equation R250 writes. -/
theorem ready_iff {s : State} {b : Byte} : ready s b = true ↔ b &&& s.pollMask = s.pollMatch :=
  beq_iff_eq

/-- A byte that is ready shows MATCH as a part of MASK: `b & MASK` has no bit outside MASK. -/
theorem pollMatch_and_not_pollMask_of_ready {s : State} {b : Byte} (h : ready s b = true) :
    s.pollMatch &&& ~~~ s.pollMask = 0 :=
  calc s.pollMatch &&& ~~~ s.pollMask
    _ = (b &&& s.pollMask) &&& ~~~ s.pollMask := by rw [ready_iff.mp h]
    _ = b &&& (s.pollMask &&& ~~~ s.pollMask) := BitVec.and_assoc ..
    _ = b &&& 0 := by rw [BitVec.and_not_self]
    _ = 0 := BitVec.and_zero

end Sys2Proof.Machine
end

section
/-! The obligations of 45_poll.md. -/

namespace Sys2Proof.Machine

/-- Settles O44: the equation of R250, and the contrapositive of "ready leaves no bit of MATCH outside MASK". -/
theorem readyPredicateIsMaskAndMatch : Obligations.ReadyPredicateIsMaskAndMatch := by
  intro s b
  have never : s.pollMatch &&& ~~~ s.pollMask ≠ 0 → ready s b = false := fun outside =>
    Bool.eq_false_iff.mpr fun h => outside (pollMatch_and_not_pollMask_of_ready h)
  exact ⟨ready_iff, never⟩

end Sys2Proof.Machine
end

section
/-! The encoding: a word of the opcode map is fixed by its fields (R101 to R106). -/

namespace Sys2Proof

/-- R101, R110: a length that fits its field is read back from it. -/
theorem toNat_ofNat_of_lenFits {len : Nat} (h : lenFits len = true) : (BitVec.ofNat 5 len).toNat = len := by
  rw [BitVec.toNat_ofNat]
  exact Nat.mod_eq_of_lt (of_decide_eq_true h)

/-- R110: an index that fits its field is read back from it. -/
theorem toNat_ofNat_of_indexFits {k : Nat} (h : indexFits k = true) : (BitVec.ofNat 8 k).toNat = k := by
  rw [BitVec.toNat_ofNat]
  exact Nat.mod_eq_of_lt (of_decide_eq_true h)

theorem lenFits_toNat (x : BitVec 5) : lenFits x.toNat = true := decide_eq_true x.isLt

theorem indexFits_toNat (x : Byte) : indexFits x.toNat = true := decide_eq_true x.isLt

/-- R101: the word of a command is its fields, each shifted to its place. -/
theorem commandWord_eq_shifts (len : BitVec 5) (d8 a8 : Byte) (op : BitVec 5) :
    commandWord len d8 a8 op =
      len.setWidth 32 <<< 24 ||| d8.setWidth 32 <<< 16 ||| a8.setWidth 32 <<< 8 ||| op.setWidth 32 := by
  apply BitVec.eq_of_getLsbD_eq
  intro i hi
  have bound {n : Nat} (x : BitVec n) (k : Nat) (h : n ≤ k) : x.getLsbD k = false := BitVec.getLsbD_of_ge x k h
  rw [getLsbD_commandWord]
  simp only [BitVec.getLsbD_or, BitVec.getLsbD_shiftLeft, BitVec.getLsbD_setWidth, hi, decide_true, Bool.true_and]
  split_ifs with c5 c8 c16 c24 c29
  · simp [show i < 24 by omega, show i < 16 by omega, show i < 8 by omega]
  · simp [show i < 24 by omega, show i < 16 by omega, c8, bound op i (by omega)]
  · simp [show i < 24 by omega, c16, c8, show i - 8 < 32 by omega, bound op i (by omega)]
  · simp [c24, c16, c8, show i - 16 < 32 by omega, bound op i (by omega), bound a8 (i - 8) (by omega)]
  · simp [c24, c16, c8, show i - 24 < 32 by omega, bound op i (by omega), bound a8 (i - 8) (by omega),
      bound d8 (i - 16) (by omega)]
  · simp [c24, c16, c8, bound op i (by omega), bound a8 (i - 8) (by omega), bound d8 (i - 16) (by omega),
      bound len (i - 24) (by omega)]

/-- "Every mask covers OP" (R103). -/
theorem opField_mask {r : Row} (h : r ∈ rows) : opField r.mask = 31#5 := by
  simp only [rows, List.mem_cons, List.not_mem_nil, or_false] at h
  rcases h with rfl | rfl | rfl | rfl | rfl | rfl | rfl | rfl | rfl | rfl | rfl | rfl | rfl | rfl | rfl | rfl <;> decide

/-- A word that selects a row has the OP of that row. -/
theorem opField_of_selects {r : Row} (h : r ∈ rows) {w : Word} (hw : (w &&& r.mask == r.code) = true) :
    opField r.code = opField w := by
  rw [← beq_iff_eq.mp hw, opField_and, opField_mask h, and_ones5]

/-- The rows have sixteen different OPs. -/
theorem nodup_opField_rows : (rows.map fun r => opField r.code).Nodup := by decide

/-- A word decodes to the command of a row it selects (R106). -/
theorem exists_row_of_decode {w : Word} {i : Instr} (h : decode w = .ok i) :
    ∃ r ∈ rows, (w &&& r.mask == r.code) = true ∧ i = r.build w := by
  unfold decode at h
  split at h
  · next r hr =>
    simp only [Except.ok.injEq] at h
    exact ⟨r, List.mem_of_find?_eq_some hr, List.find?_some (p := fun r : Row => w &&& r.mask == r.code) hr, h.symm⟩
  · simp at h

/-- The command of a row is well formed and its word is the one it is cut from: the fields the row leaves unused are 0, and
the others stand in the command (R104). -/
theorem encode_build {r : Row} (hr : r ∈ rows) {w : Word} (hw : (w &&& r.mask == r.code) = true) :
    (r.build w).wellFormed = true ∧ encode (r.build w) = w := by
  have fields := commandWord_fields (w := w)
  simp only [rows, List.mem_cons, List.not_mem_nil, or_false] at hr
  rcases hr with rfl | rfl | rfl | rfl | rfl | rfl | rfl | rfl | rfl | rfl | rfl | rfl | rfl | rfl | rfl | rfl
  all_goals
    simp only [BitVec.ofNat_eq_ofNat, code_0, code_1, code_2, code_3, code_4, code_5, code_6, code_7, code_8, code_9,
      code_10, code_11, code_12, code_13, code_14, code_15, selects_plain, selects_d8, selects_len, selects_a8d8,
      selects_a8len, selects_a8, decide_eq_true_eq] at hw
    simp_all [encode, Instr.wellFormed, lenFits_toNat, indexFits_toNat]

/-- A command that decodes from w is cut from w's fields, and its own word is w (R104, R106). -/
theorem wellFormed_and_encode_of_decode {w : Word} {i : Instr} (h : decode w = .ok i) :
    i.wellFormed = true ∧ encode i = w := by
  obtain ⟨r, hr, hw, rfl⟩ := exists_row_of_decode h
  exact encode_build hr hw

/-- The words of R103: an OP of some row, both reserved fields 0, and every field its row leaves unused 0 (R104, R105). -/
theorem exists_decode_ok_iff (w : Word) : (∃ i, decode w = .ok i) ↔
    (opField w).toNat < 0x10 ∧ rsv0Field w = 0#3 ∧ rsv1Field w = 0#3 ∧ (a8Field w = 0#8 ∨ opField w ∈ Machine.usesA8) ∧
      (d8Field w = 0#8 ∨ opField w ∈ Machine.usesD8) ∧ (lenField w = 0#5 ∨ opField w ∈ Machine.usesLen) := by
  constructor
  · rintro ⟨i, h⟩
    obtain ⟨-, rfl⟩ := wellFormed_and_encode_of_decode h
    cases i <;> simp [encode, Machine.usesA8, Machine.usesD8, Machine.usesLen]
  · rintro ⟨hop, h0, h1, ha, hd, hl⟩
    rw [decode_eq_fields]
    generalize opField w = op at *
    obtain ⟨⟨op, hlt⟩⟩ := op
    simp only [BitVec.toNat_ofFin] at hop
    interval_cases op <;> simp_all [Machine.usesA8, Machine.usesD8, Machine.usesLen]

theorem decode_encode {i : Instr} (h : i.wellFormed = true) : decode (encode i) = .ok i := by
  rw [decode_eq_fields]
  cases i with
  | uartRead len => simp [encode, toNat_ofNat_of_lenFits h]
  | i2cRead reg len => simp [encode, toNat_ofNat_of_lenFits h]
  | spiRead instr len => simp [encode, toNat_ofNat_of_lenFits h]
  | spiCmdr instr len => simp [encode, toNat_ofNat_of_lenFits h]
  | asm16 k => simp [encode, toNat_ofNat_of_indexFits h]
  | _ => simp [encode]

end Sys2Proof
end

section
/-! The obligations of 30_encoding.md. -/

namespace Sys2Proof

/-- Settles O1: the decoder reads back each field that the encoder writes. -/
theorem decodeOfEncodeIsTheCommand : Obligations.DecodeOfEncodeIsTheCommand :=
  fun _ h => decode_encode h

/-- Settles O2: the row that a word selects gives its command back. -/
theorem decodedWordIsTheCommandsWord : Obligations.DecodedWordIsTheCommandsWord :=
  fun _ _ h => wellFormed_and_encode_of_decode h

/-- Settles O3: a word is illegal where it is none of the words of R103. -/
theorem illegalWordsAreThoseOfR105 : Obligations.IllegalWordsAreThoseOfR105 := by
  intro w
  have illegal : (∃ e, decode w = .error e) ↔ ¬ ∃ i, decode w = .ok i := by
    cases decode w <;> simp
  rw [illegal, exists_decode_ok_iff]
  simp only [BitVec.ofNat_eq_ofNat]
  rw [← not_le]
  tauto

/-- Settles O4: every row that w selects has the OP of w, and no two rows have one OP. -/
theorem atMostOneRowMatchesAWord : Obligations.AtMostOneRowMatchesAWord := by
  intro w
  calc (rows.filter fun r => w &&& r.mask == r.code).length
    _ = rows.countP fun r => w &&& r.mask == r.code := List.countP_eq_length_filter.symm
    _ ≤ rows.countP fun r => opField r.code == opField w :=
      List.countP_mono_left fun r hr hw => beq_iff_eq.mpr (opField_of_selects hr hw)
    _ = (rows.map fun r => opField r.code).count (opField w) := by
      rw [List.count, List.countP_map]
      rfl
    _ ≤ 1 := List.nodup_iff_count_le_one.mp nodup_opField_rows _

/-- Settles O5, word by word. -/
theorem wordsOfTheVectorsDecode : Obligations.WordsOfTheVectorsDecode :=
  ⟨by decide, ⟨.undefinedOp, by decide⟩, by decide, by decide, by decide, by decide, by decide⟩

/-- Settles O6: each operand that fits its field is shifted to its place; one that does not is refused. -/
theorem assemblerWritesTheWordsOfR110 : Obligations.AssemblerWritesTheWordsOfR110 := by
  refine ⟨by decide, fun x y => ⟨?_, ?_, ?_, ?_, ?_, ?_, ?_, ?_, ?_, rfl⟩⟩
  · by_cases hx : x < 256 <;> simp [assemble, assembleInstr, encode, commandWord_eq_shifts, hx]
  · by_cases hx : x < 32 <;>
      simp [assemble, assembleInstr, Instr.wellFormed, lenFits, encode, commandWord_eq_shifts, hx]
  · by_cases hx : x < 256 <;> by_cases hy : y < 256 <;>
      simp [assemble, assembleInstr, encode, commandWord_eq_shifts, hx, hy]
  · by_cases hx : x < 256 <;> by_cases hy : y < 32 <;>
      simp [assemble, assembleInstr, Instr.wellFormed, lenFits, encode, commandWord_eq_shifts, hx, hy]
  · by_cases hx : x < 256 <;> by_cases hy : y < 256 <;>
      simp [assemble, assembleInstr, encode, commandWord_eq_shifts, hx, hy]
  · by_cases hx : x < 256 <;> by_cases hy : y < 32 <;>
      simp [assemble, assembleInstr, Instr.wellFormed, lenFits, encode, commandWord_eq_shifts, hx, hy]
  · by_cases hx : x < 256 <;> simp [assemble, assembleInstr, encode, commandWord_eq_shifts, hx]
  · by_cases hx : x < 256 <;> by_cases hy : y < 32 <;>
      simp [assemble, assembleInstr, Instr.wellFormed, lenFits, encode, commandWord_eq_shifts, hx, hy]
  · by_cases hx : x < 256 <;>
      simp [assemble, assembleInstr, Instr.wellFormed, indexFits, encode, commandWord_eq_shifts, hx]

end Sys2Proof
end

section
/-! The host port: what a host access answers, and the fields that a register's word holds (R30 to R45, R71 to R73). -/

namespace Sys2Proof.Machine

/-- R71: the host accesses that have a meaning. -/
def Meaningful (a : HostAccess) (s : State) : Prop :=
  a.bytes = 4 ∧ s.params.blockBase ≤ a.addr ∧ a.addr < s.params.blockBase + 0x100 ∧
    (a.addr - s.params.blockBase) % 4 = 0

/-- An access with a meaning has a step (R71). -/
theorem exists_hostStep_of_meaningful {a : HostAccess} {s : State} (h : Meaningful a s) : ∃ t, hostStep a s = .next t := by
  obtain ⟨hbytes, hbase, hend, halign⟩ := h
  have inside : ¬ (a.addr < s.params.blockBase ∨ Config.windowSize ≤ a.addr - s.params.blockBase) := by
    unfold Config.windowSize
    omega
  simp only [hostStep, hbytes, ne_eq, not_true_eq_false, if_false, inside, halign]
  cases a.value <;> exact ⟨_, rfl⟩

/-- An access without one is refused, for its width, its place or its alignment (R71, log 8). -/
theorem hostStep_refused {a : HostAccess} {s : State} (h : ¬ Meaningful a s) :
    hostStep a s = .refused .hostWidth ∨ hostStep a s = .refused .hostWindow ∨ hostStep a s = .refused .hostAlignment := by
  unfold hostStep
  simp only
  split_ifs with hbytes hwindow halign
  · exact .inl rfl
  · exact .inr (.inl rfl)
  · exact .inr (.inr rfl)
  · refine absurd ⟨by omega, by omega, ?_, by omega⟩ h
    unfold Config.windowSize at hwindow
    omega

theorem meaningful_of_hostStep {a : HostAccess} {s t : State} (h : hostStep a s = .next t) : Meaningful a s := by
  by_contra hm
  rcases hostStep_refused hm with e | e | e <;> simp [e] at h

@[simp] theorem readWindow_regOffset (r : HostReg) (s : State) : readWindow (regOffset r) s = readReg r s := by
  simp [readWindow]

theorem readWindow_reserved {off : Nat} (h : 0x50 ≤ off) (s : State) : readWindow off s = 0 := by
  simp [readWindow, regAt_reserved h]

/-- A read at a word offset of the window is recorded, and changes nothing else (R72, log 9). -/
theorem hostStep_hostReadAt {off : Nat} (hw : off < 0x100) (ha : off % 4 = 0) (s : State) :
    hostStep (hostReadAt off s) s = .next (record (.hostRead off (readWindow off s)) s) := by
  simp [hostStep, hostReadAt, Config.windowSize, ha, hw]

/-- The word offsets below 0x50 are those of R30's table. -/
theorem exists_regOffset_eq {off : Nat} (ha : off % 4 = 0) (h : off < 0x50) : ∃ r, regOffset r = off := by
  have table : windowRegs.map regOffset = (List.range 20).map (4 * ·) := by decide
  have mem : off ∈ windowRegs.map regOffset := by
    rw [table, List.mem_map]
    exact ⟨off / 4, List.mem_range.mpr (by omega), by omega⟩
  obtain ⟨r, -, hr⟩ := List.mem_map.mp mem
  exact ⟨r, hr⟩

/-- A read-only register is as it was, whatever BUSY is (R31, R131). -/
theorem writeReg_readOnly {r : HostReg} (hr : writable r = false) (v : Word) (s : State) : writeReg r v s = s := by
  cases r with
  | cmd | i2cDev | maddr | clkHz | baud | uartLcr | uartCr | pollCfg | pollTxn => simp [writable] at hr
  | _ => simp [writeReg, writable, storeReg]

/-! ### The bits of the packed registers -/

/-- The seven bits of DEV (R34). -/
theorem setWidth_extractLsb'_seven (v : Word) : (v.extractLsb' 0 7).setWidth 32 = v &&& 0x0000007F#32 := by
  apply BitVec.eq_of_toNat_eq
  have := Nat.and_two_pow_sub_one_eq_mod v.toNat 7
  simp_all
  omega

/-- The sixteen bits of ADDR (R35). -/
theorem setWidth_extractLsb'_sixteen (v : Word) : (v.extractLsb' 0 16).setWidth 32 = v &&& 0x0000FFFF#32 := by
  apply BitVec.eq_of_toNat_eq
  have := Nat.and_two_pow_sub_one_eq_mod v.toNat 16
  simp_all
  omega

theorem and_ones32 (v : Word) : v &&& 0xFFFFFFFF#32 = v := BitVec.and_allOnes

/-- A word is its MAX, MATCH and MASK fields (R39). -/
theorem pollCfg_fields (v : Word) :
    (v.extractLsb' 16 16 ++ v.extractLsb' 8 8 ++ v.extractLsb' 0 8 : BitVec (16 + 8 + 8)) = v := by
  apply BitVec.eq_of_getLsbD_eq
  intro i hi
  simp only [BitVec.getLsbD_append, BitVec.getLsbD_extractLsb']
  split_ifs with h8 h16
  · simp [h8]
  · simp [show i - 8 < 8 by omega, show 8 + (i - 8) = i by omega]
  · simp [show i - 8 - 8 < 16 by omega, show 16 + (i - 8 - 8) = i by omega]

section Fields

variable {k m n o : Nat}

theorem extractLsb'_append_above (x : BitVec k) (y : BitVec n) (i len : Nat) :
    (x ++ y).extractLsb' (i + n) len = x.extractLsb' i len := by
  rw [BitVec.extractLsb'_append_eq_of_le (Nat.le_add_left n i), Nat.add_sub_cancel]

theorem getLsbD_append_above (x : BitVec k) (y : BitVec n) (i : Nat) : (x ++ y).getLsbD (i + n) = x.getLsbD i := by
  rw [BitVec.getLsbD_append, if_neg (by omega), Nat.add_sub_cancel]

theorem getLsbD_append_ofBool (x : BitVec k) (b : Bool) : (x ++ BitVec.ofBool b).getLsbD 0 = b := by
  rw [BitVec.getLsbD_append, if_pos Nat.one_pos]
  cases b <;> rfl

/-- The fields of a word of three. -/
theorem extractLsb'_append_three (x : BitVec k) (y : BitVec m) (z : BitVec n) :
    (x ++ y ++ z).extractLsb' 0 n = z ∧ (x ++ y ++ z).extractLsb' (0 + n) m = y ∧
      (x ++ y ++ z).extractLsb' (0 + m + n) k = x := by
  refine ⟨BitVec.extractLsb'_append_eq_right, ?_, ?_⟩
  · rw [extractLsb'_append_above, BitVec.extractLsb'_append_eq_right]
  · rw [extractLsb'_append_above, extractLsb'_append_above, BitVec.extractLsb'_eq_self]

/-- The fields of a word of four. -/
theorem extractLsb'_append_four (x : BitVec k) (y : BitVec m) (z : BitVec n) (u : BitVec o) :
    (x ++ y ++ z ++ u).extractLsb' 0 o = u ∧ (x ++ y ++ z ++ u).extractLsb' (0 + o) n = z ∧
      (x ++ y ++ z ++ u).extractLsb' (0 + n + o) m = y ∧ (x ++ y ++ z ++ u).extractLsb' (0 + m + n + o) k = x := by
  obtain ⟨hz, hy, hx⟩ := extractLsb'_append_three x y z
  refine ⟨BitVec.extractLsb'_append_eq_right, ?_, ?_, ?_⟩
  · rw [extractLsb'_append_above, hz]
  · rw [extractLsb'_append_above, hy]
  · rw [extractLsb'_append_above, hx]

/-- Five flags stand below the rest of a word. -/
theorem flags_append (x : BitVec k) (b4 b3 b2 b1 b0 : Bool) :
    let w := x ++ BitVec.ofBool b4 ++ BitVec.ofBool b3 ++ BitVec.ofBool b2 ++ BitVec.ofBool b1 ++ BitVec.ofBool b0
    w.getLsbD 0 = b0 ∧ w.getLsbD 1 = b1 ∧ w.getLsbD 2 = b2 ∧ w.getLsbD 3 = b3 ∧ w.getLsbD 4 = b4 ∧
      ∀ i len, w.extractLsb' (i + 1 + 1 + 1 + 1 + 1) len = x.extractLsb' i len := by
  refine ⟨getLsbD_append_ofBool _ b0, ?_, ?_, ?_, ?_, fun i len => ?_⟩
  · exact (getLsbD_append_above _ _ 0).trans (getLsbD_append_ofBool _ b1)
  · exact (getLsbD_append_above _ _ 1).trans <| (getLsbD_append_above _ _ 0).trans (getLsbD_append_ofBool _ b2)
  · exact (getLsbD_append_above _ _ 2).trans <| (getLsbD_append_above _ _ 1).trans <|
      (getLsbD_append_above _ _ 0).trans (getLsbD_append_ofBool _ b3)
  · exact (getLsbD_append_above _ _ 3).trans <| (getLsbD_append_above _ _ 2).trans <|
      (getLsbD_append_above _ _ 1).trans <| (getLsbD_append_above _ _ 0).trans (getLsbD_append_ofBool _ b4)
  · simp only [extractLsb'_append_above]

end Fields

/-- What a write to an RW register stores is read back, its reserved bits 0 (R34 to R40). -/
theorem readReg_storeReg_same {r : HostReg} (hw : writable r = true) (hc : r ≠ .cmd) (v : Word) (s : State) :
    readReg r (storeReg r v s) = v &&& fieldMask r := by
  cases r with
  | cmd => exact absurd rfl hc
  | i2cDev => exact setWidth_extractLsb'_seven v
  | maddr => exact setWidth_extractLsb'_sixteen v
  | pollCfg => exact (pollCfg_fields v).trans (and_ones32 v).symm
  | clkHz | baud | uartLcr | uartCr | pollTxn => exact (and_ones32 v).symm
  | status | bauddiv | pollInfo | asm | sample01 | sample23 | sample45 | rxbuf0 | rxbuf1 | rxbuf2 | rxbuf3 =>
    simp [writable] at hw

/-- It changes no other register of the window. -/
theorem readReg_storeReg_other {r q : HostReg} (hc : r ≠ .cmd) (hq : q ≠ r) (v : Word) (s : State) :
    readReg q (storeReg r v s) = readReg q s := by
  cases r with
  | cmd => exact absurd rfl hc
  | i2cDev =>
    cases q with
    | i2cDev => exact absurd rfl hq
    | _ => rfl
  | maddr =>
    cases q with
    | maddr => exact absurd rfl hq
    | _ => rfl
  | clkHz =>
    cases q with
    | clkHz => exact absurd rfl hq
    | _ => rfl
  | baud =>
    cases q with
    | baud => exact absurd rfl hq
    | _ => rfl
  | uartLcr =>
    cases q with
    | uartLcr => exact absurd rfl hq
    | _ => rfl
  | uartCr =>
    cases q with
    | uartCr => exact absurd rfl hq
    | _ => rfl
  | pollCfg =>
    cases q with
    | pollCfg => exact absurd rfl hq
    | _ => rfl
  | pollTxn =>
    cases q with
    | pollTxn => exact absurd rfl hq
    | _ => rfl
  | _ => rfl

@[simp] theorem readReg_record (r : HostReg) (e : Event) (s : State) : readReg r (record e s) = readReg r s := by
  cases r <;> rfl

theorem channel_eq_getElem {c : Nat} (hc : c < 6) (s : State) : channel s c = s.ch[c] := by
  simp [channel, Vector.getD, hc]

end Sys2Proof.Machine
end

section
/-! The obligations of 10_state.md and 20_memory.md about the window. -/

namespace Sys2Proof.Machine

/-- Settles O7: an access has a step where it has a meaning, and is refused where it has none. -/
theorem hostAccessesWithoutMeaningAreRefused : Obligations.HostAccessesWithoutMeaningAreRefused := by
  intro a s
  refine ⟨⟨fun ⟨t, h⟩ => meaningful_of_hostStep h, exists_hostStep_of_meaningful⟩,
    fun h => hostStep_refused fun hm => ?_⟩
  obtain ⟨t, ht⟩ := exists_hostStep_of_meaningful hm
  exact h t ht

/-- Settles O8: a read is recorded with the word it returns; the offsets from 0x50 on hold no register. -/
theorem hostReadsHaveNoSideEffect : Obligations.HostReadsHaveNoSideEffect := by
  refine ⟨fun r s => ⟨readWindow_regOffset r s, ?_⟩,
    fun k s hk => ⟨?_, fun hk' => ⟨readWindow_reserved hk' s, fun v => ?_⟩⟩⟩
  · have := regOffset_lt r
    rw [hostStep_hostReadAt (by omega) (regOffset_mod_four r), readWindow_regOffset]
    rfl
  · exact hostStep_hostReadAt (by omega) (by omega) s
  · rw [hostStep_hostWriteAt (by omega) (by omega), writeWindow_reserved hk']
    rfl

/-- Settles O11: an RW register stores by `storeReg`, a read-only one does not; the fields stand where `readReg` puts them. -/
theorem writesStoreFieldsOrAreIgnored : Obligations.WritesStoreFieldsOrAreIgnored := by
  refine ⟨fun r v s hb hr => ?_, fun r v s hr => ?_, fun s => ?_⟩
  · have hw : writable r = true := by
      rw [writable_eq_mem]
      exact decide_eq_true (List.mem_cons_of_mem _ hr)
    have hc : r ≠ .cmd := by
      rintro rfl
      simp at hr
    refine ⟨_, hostStep_write_reg r v s, ?_, fun q hq => ?_, ?_⟩
    · rw [readReg_record, writeReg_idle hb, readReg_storeReg_same hw hc]
    · rw [readReg_record, writeReg_idle hb, readReg_storeReg_other hc hq]
    · rw [writeReg_idle hb]
      cases r with
      | cmd => exact absurd rfl hc
      | _ => rfl
  · have hw : writable r = false := by
      rw [writable_eq_mem]
      revert hr
      cases r <;> decide
    rw [hostStep_write_reg, writeReg_readOnly hw]
    rfl
  · obtain ⟨mask, pmatch, max⟩ := extractLsb'_append_three s.pollMax s.pollMatch s.pollMask
    refine ⟨?_, ?_, rfl, rfl, rfl, rfl, ?_, ?_, ?_, rfl⟩
    · exact BitVec.toNat_setWidth_of_le (by decide)
    · exact BitVec.toNat_setWidth_of_le (by decide)
    · exact mask
    · exact pmatch
    · exact max

/-- Settles O12: the table of R30, and its offsets as the multiples of 4 below 0x50. -/
theorem twentyRegistersInTheWindow : Obligations.TwentyRegistersInTheWindow := by
  refine ⟨by decide, regAt_regOffset, fun off => ⟨?_, ?_⟩⟩
  · rintro ⟨r, hr⟩
    obtain rfl := regOffset_of_regAt hr
    exact ⟨regOffset_mod_four r, regOffset_lt r⟩
  · rintro ⟨ha, h⟩
    obtain ⟨r, rfl⟩ := exists_regOffset_eq ha h
    exact ⟨r, regAt_regOffset r⟩

/-- Settles O13, bit by bit. -/
theorem statusAndPollInfoHoldTheirFields : Obligations.StatusAndPollInfoHoldTheirFields := by
  intro s
  have code : (resultCode s.result).toNat =
      (match s.result with
      | .ok => 0
      | .timeout => 1
      | .invalidLength => 2
      | .busFault => 3
      | .invalidConfig => 4
      | .illegalCommand => 5) := by
    cases s.result <;> rfl
  have state : (pollStateCode s.pollState).toNat =
      (match s.pollState with
      | .idle => 0
      | .evaluate => 1
      | .ready => 2
      | .retry => 3
      | .timeout => 4
      | .faulted => 5) := by
    cases s.pollState <;> rfl
  obtain ⟨busy, done, reject, cs, held, above⟩ :=
    flags_append (0#20 ++ resultCode s.result ++ 0#3) s.held s.cs s.reject s.done s.busy
  obtain ⟨low, result, high⟩ := extractLsb'_append_three 0#20 (resultCode s.result) 0#3
  obtain ⟨last, pollState, reserved, attempts⟩ :=
    extractLsb'_append_four s.pollAttempts 0#5 (pollStateCode s.pollState) s.pollLast
  refine ⟨rfl, busy, done, reject, cs, held, (above 0 3).trans low, (above 7 20).trans high, ?_, last, reserved,
    attempts, ?_⟩
  · exact (congrArg BitVec.toNat ((above 3 4).trans result)).trans code
  · exact (congrArg BitVec.toNat pollState).trans state

/-- Settles O14: the fields of each word. -/
theorem resultRegistersReadTheirFields : Obligations.ResultRegistersReadTheirFields := by
  intro s
  obtain ⟨ibrd, fbrd, reserved⟩ := extractLsb'_append_three 0#10 s.fbrd s.ibrd
  have low (c : Nat) (hc : c < 6) : (sampleWord s c).extractLsb' 0 16 = s.ch[c] :=
    BitVec.extractLsb'_append_eq_right.trans (channel_eq_getElem hc s)
  have high (c : Nat) (hc : c + 1 < 6) : (sampleWord s c).extractLsb' 16 16 = s.ch[c + 1] :=
    BitVec.extractLsb'_append_eq_left.trans (channel_eq_getElem hc s)
  have byte (r : HostReg) (k : Nat) (hr : readReg r s = rxWord s k) (j : Nat) (hj : j < 4) :
      (readReg r s).extractLsb' (8 * j) 8 = rxByte s (4 * k + j) := by
    obtain ⟨b0, b1, b2, b3⟩ :=
      extractLsb'_append_four (rxByte s (4 * k + 3)) (rxByte s (4 * k + 2)) (rxByte s (4 * k + 1)) (rxByte s (4 * k))
    rw [hr]
    interval_cases j
    · exact b0
    · exact b1
    · exact b2
    · exact b3
  refine ⟨ibrd, fbrd, reserved, BitVec.toInt_signExtend_of_le (by decide), low 0 (by decide), high 0 (by decide),
    low 2 (by decide), high 2 (by decide), low 4 (by decide), high 4 (by decide), fun i hi => ?_⟩
  have word (r : HostReg) (k : Nat) (hr : readReg r s = rxWord s k) (ho : regOffset r = 0x40 + 4 * k) (hk : i / 4 = k) :
      (readWindow (0x40 + 4 * (i / 4)) s).extractLsb' (8 * (i % 4)) 8 = rxByte s i := by
    rw [hk, ← ho, readWindow_regOffset, byte r k hr (i % 4) (Nat.mod_lt i (by decide))]
    congr 1
    omega
  have hk : i / 4 < 4 := by omega
  interval_cases i / 4
  · exact word .rxbuf0 0 rfl rfl rfl
  · exact word .rxbuf1 1 rfl rfl rfl
  · exact word .rxbuf2 2 rfl rfl rfl
  · exact word .rxbuf3 3 rfl rfl rfl

end Sys2Proof.Machine
end

section
/-! Reset, and whose step a step is (R55, R90, R320). -/

namespace Sys2Proof.Machine

theorem readReg_reset (r : HostReg) : readReg r State.reset = 0 := by
  cases r <;> decide

/-- No register shows the model's own fields, so all read as after reset (R55). -/
theorem readReg_resetEvent (r : HostReg) (s : State) : readReg r (resetEvent s) = readReg r State.reset := by
  cases r <;> rfl

theorem readWindow_resetEvent (off : Nat) (s : State) : readWindow off (resetEvent s) = 0 := by
  cases hr : regAt off with
  | none => simp [readWindow, hr]
  | some r =>
    obtain rfl := regOffset_of_regAt hr
    rw [readWindow_regOffset, readReg_resetEvent, readReg_reset]

theorem step_of_agenda_nil {s : State} (ha : s.params.aligned = true) (hg : s.agenda = []) : step s = sequencerStep s := by
  simp [step, machineStep, ha, takeTurn, hg]

theorem step_of_agenda_sequencer {s : State} {rest : List Turn} (ha : s.params.aligned = true)
    (hg : s.agenda = .sequencer :: rest) : step s = sequencerStep { s with agenda := rest } := by
  simp [step, machineStep, ha, takeTurn, hg]

theorem step_of_agenda_host {s : State} {a : HostAccess} {rest : List Turn} (ha : s.params.aligned = true)
    (hg : s.agenda = .host a :: rest) : step s = hostStep a { s with agenda := rest } := by
  simp [step, machineStep, ha, takeTurn, hg]

theorem step_of_agenda_reset {s : State} {rest : List Turn} (ha : s.params.aligned = true)
    (hg : s.agenda = .reset :: rest) : step s = .next (resetEvent { s with agenda := rest }) := by
  simp [step, machineStep, ha, takeTurn, hg]

theorem step_misaligned {s : State} (ha : s.params.aligned = false) : step s = .refused .parameterAlignment := by
  simp [step, machineStep, ha]

theorem sequencerStep_busy {s : State} {i : Instr} (hb : s.busy = true) (hd : decode s.cur = .ok i) :
    sequencerStep s = exec i s := by
  simp [sequencerStep, hb, hd]

theorem sequencerStep_quiescent {s : State} (hb : s.busy = false) : sequencerStep s = .next s := by
  simp [sequencerStep, hb]

end Sys2Proof.Machine
end

section
/-! The obligations about reset and the step, of 40_control.md and 70_reset_and_hazards.md. -/

namespace Sys2Proof.Machine

/-- Settles O15, register by register. -/
theorem resetLeavesTheValuesOfR55 : Obligations.ResetLeavesTheValuesOfR55 :=
  ⟨fun off => readWindow_resetEvent off State.reset, rfl, rfl, rfl, rfl, rfl, rfl, rfl, rfl, rfl, rfl, rfl, rfl⟩

/-- Settles O16: the reset turn is the reset event. -/
theorem resetEventRestoresEverything : Obligations.ResetEventRestoresEverything :=
  fun s rest ha hg => ⟨_, step_of_agenda_reset ha hg, fun off => readWindow_resetEvent off { s with agenda := rest },
    rfl, rfl, rfl, rfl, rfl, rfl, rfl⟩

/-- Settles O17, turn by turn. -/
theorem stepRunsTheDecodedCommand : Obligations.StepRunsTheDecodedCommand := by
  refine ⟨fun i s rest ha hb hd => ⟨fun hg => step_exec ha hg hb hd, fun hg => ?_⟩, fun a s rest => step_of_agenda_host⟩
  rw [step_of_agenda_sequencer ha hg]
  exact sequencerStep_busy hb hd

/-- Settles O18: the sequencer's turn on a quiescent core. -/
theorem sequencerHasNoStepWhenQuiescent : Obligations.SequencerHasNoStepWhenQuiescent := by
  refine fun s rest ha hb => ⟨fun hg => ?_, fun hg => ?_⟩
  · rw [step_of_agenda_nil ha hg, sequencerStep_quiescent hb]
  · rw [step_of_agenda_sequencer ha hg]
    exact sequencerStep_quiescent hb

/-- Settles O19: the sequencer's turn on an illegal word. -/
theorem illegalCommandCompletesInOneStep : Obligations.IllegalCommandCompletesInOneStep := by
  intro s e ha hg hb hp hd
  rw [step_of_agenda_nil ha hg, sequencerStep_illegal hb hp hd]
  rfl

end Sys2Proof.Machine
end

section
/-! The divisor as a rounded quotient (R151, R153). -/

namespace Sys2Proof.Machine

/-- N is the quotient of 8*clk + baud by 2*baud: the remainder bounds the rounding error. -/
theorem divisorUnits_nearest {baud : Nat} (hb : 0 < baud) (clk : Nat) :
    2 * baud * divisorUnits clk baud ≤ 8 * clk + baud ∧ 8 * clk < 2 * baud * divisorUnits clk baud + baud := by
  have quotient := Nat.div_add_mod (8 * clk + baud) (2 * baud)
  have remainder := Nat.mod_lt (8 * clk + baud) (show 0 < 2 * baud by omega)
  unfold divisorUnits
  omega

theorem divisorUnits_mono_clk (baud : Nat) {clk clk' : Nat} (h : clk ≤ clk') :
    divisorUnits clk baud ≤ divisorUnits clk' baud :=
  Nat.div_le_div_right (by omega)

/-- (8*clk + baud) / (2*baud) is 8*clk / (2*baud) + 1/2 rounded down: a larger baud rate gives a smaller quotient. -/
theorem divisorUnits_anti_baud (clk : Nat) {baud baud' : Nat} (hb : 0 < baud) (h : baud ≤ baud') :
    divisorUnits clk baud' ≤ divisorUnits clk baud := by
  obtain ⟨lower, -⟩ := divisorUnits_nearest (show 0 < baud' by omega) clk
  have upper : divisorUnits clk baud' * (2 * baud) ≤ 8 * clk + baud := by
    cases hn : divisorUnits clk baud' with
    | zero => simp
    | succ n =>
      rw [hn] at lower
      have : n * baud ≤ n * baud' := Nat.mul_le_mul_left n h
      linarith [lower, this]
  exact (Nat.le_div_iff_mul_le (by omega)).mpr upper

/-- The divisor is the two parts of N, and N rounds 4*clk/baud to the nearest 1/64. -/
theorem divisor_nearest {clk baud i f : Nat} (h : divisor clk baud = some (i, f)) :
    (2 * baud * (64 * i + f) : Int) - 8 * clk ≤ baud ∧ (8 * clk : Int) - 2 * baud * (64 * i + f) ≤ baud := by
  obtain ⟨hb, hi, hf, -⟩ := divisor_some h
  obtain ⟨upper, lower⟩ := divisorUnits_nearest (Nat.pos_of_ne_zero hb) clk
  have parts : 64 * i + f = divisorUnits clk baud := by omega
  rw [← parts] at upper lower
  zify at upper lower
  constructor <;> linarith

end Sys2Proof.Machine
end

section
/-! The obligations about the divisor and the assembler, of 41_uart_baud.md and 44_assemble.md. -/

namespace Sys2Proof.Machine

/-- Settles O22: BAUD.CALC by the range of N. -/
theorem baudCalcWritesTheDivisor : Obligations.BaudCalcWritesTheDivisor := by
  intro s hp clk baud n
  have hd : divisor clk baud =
      if baud = 0 then none else if 64 ≤ n ∧ n ≤ 4194240 then some (n / 64, n % 64) else none :=
    divisor_eq_of_range clk baud
  have run : exec .baudCalc s =
      match divisor clk baud with
      | none => .next (complete .invalidConfig s)
      | some (i, f) => .next (complete .ok (setDivisor i f s)) :=
    atStart_start hp _
  constructor
  · intro hb hl hu
    rw [run, hd, if_neg hb, if_pos ⟨hl, hu⟩]
    rfl
  · intro h
    have hnone : divisor clk baud = none := by
      rw [hd]
      split_ifs with hz hin
      · rfl
      · omega
      · rfl
    rw [run, hnone]
    rfl

/-- Settles O24: the rounding error of the divisor, and N in each of its two arguments. -/
theorem divisorIsNearestAndMonotone : Obligations.DivisorIsNearestAndMonotone := by
  refine ⟨fun clk baud i f h => ?_, fun _ _ baud _ h => divisorUnits_mono_clk baud h,
    fun clk _ _ hb h => divisorUnits_anti_baud clk hb h⟩
  obtain ⟨-, -, -, -, hi, -, hf⟩ := divisor_some h
  exact ⟨hf, by omega, divisor_nearest h⟩

/-- A pair is its high byte shifted above its low one. -/
theorem raw16_eq_shift (h l : Byte) : raw16 h l = h.setWidth 16 <<< 8 ||| l.setWidth 16 :=
  (BitVec.setWidth_eq _).symm.trans BitVec.setWidth_append_eq_shiftLeft_setWidth_or

/-- Settles O25: the pair at k, by the bound on k. -/
theorem asm16AssemblesThePair : Obligations.Asm16AssemblesThePair := by
  refine fun k s hp => ⟨fun hk => ?_, fun hk => ?_⟩
  · refine (atStart_start hp _).trans ?_
    rw [if_neg (by unfold Config.rxbufSize; omega), raw16_eq_shift]
    rfl
  · refine (atStart_start hp _).trans ?_
    rw [if_pos (by unfold Config.rxbufSize; omega)]
    rfl

/-- Settles O27: each channel is the pair at its offset. -/
theorem asmSampleAssemblesSixChannels : Obligations.AsmSampleAssemblesSixChannels :=
  fun _ hp => ⟨_, atStart_start hp _, rfl, rfl, rfl, rfl, rfl, rfl, rfl⟩

end Sys2Proof.Machine
end

section
/-! What one sequencer step can do inside a transaction, said once for the nine framed commands: which primitive takes place
at a position, and which position it leads to (R15, R132). -/

namespace Sys2Proof.Machine

/-- The bus a primitive stands on (R80). A host access and a reset stand on none; their arms are read by nothing. -/
def eventBus : Event → Bus
  | .i2cStart | .i2cRstart | .i2cWrite _ _ | .i2cRead _ _ | .i2cStop => .i2c
  | .csAssert | .spiXfer _ _ | .csDeassert => .spi
  | .memRead _ _ | .memWrite _ _ | .hostRead _ _ | .hostWrite _ _ | .reset => .uart

/-- CS after a primitive (R80, R200). -/
def csAfter (e : Event) (cs : Bool) : Bool :=
  match e with
  | .csAssert => true
  | .csDeassert => false
  | _ => cs

/-- HELD after a primitive (R80, R181). -/
def heldAfter (e : Event) (held : Bool) : Bool :=
  match e with
  | .i2cStart => true
  | .i2cStop => false
  | _ => held

/-- All that a completed primitive e does, but for a received byte: its reply is used up, its line moves, it is recorded. -/
def performed (e : Event) (s : State) : State :=
  { popReply (eventBus e) s with
    cs := csAfter e s.cs, held := heldAfter e s.held, history := s.history ++ [e] }

/-- The store of a received byte, where there is one (R46). -/
def stored (byte : Option (Nat × Byte)) (s : State) : State :=
  match byte with
  | none => s
  | some (j, b) => storeRx j b s

/-- The markers of a command's transaction; a command that has none stands at no position of one. -/
def stepOf (i : Instr) (p : Pos) (s : State) : Progress :=
  match i with
  | .uartInit => uartInitStep p s
  | .uartWrite d8 => uartWriteStep d8 p s
  | .uartRead len => uartReadStep len p s
  | .i2cWrite reg d8 => i2cWriteStep reg d8 p s
  | .i2cRead reg len => i2cReadStep reg len p s
  | .spiWrite instr d8 => spiWriteStep instr d8 p s
  | .spiRead instr len => spiReadStep instr len p s
  | .spiCmd instr => spiCmdStep instr p s
  | .spiCmdr instr len => spiCmdrStep instr len p s
  | _ => .stray

/-- The positions of I2C.WRITE whose pending acknowledge is a NACK (R182, R185). -/
def writeNacks : List Pos := [.i2cRegister .nack, .i2cData .nack, .i2cWritten .nack]

/-- Those of I2C.READ (R182, R188). -/
def readNacks : List Pos := [.i2cRegister .nack, .i2cRestart .nack, .i2cReadFirst .nack]

/-- A NACK waits to be checked. -/
def Nacked (p : Pos) : Prop := p ∈ writeNacks ∨ p ∈ readNacks

/-- The markers of the framed commands, as a table: at position p the primitive e takes place, its byte goes to RXBUF where
there is one, and q is next. `nf` is NACK_IS_FAULT. -/
inductive Marker (nf : Bool) : Instr → Pos → Event → Option (Nat × Byte) → Pos → Prop
  | i2cWriteStart {reg d8} : Marker nf (.i2cWrite reg d8) .first .i2cStart none .i2cAddress
  | i2cWriteAddress {reg d8 b a} : Marker nf (.i2cWrite reg d8) .i2cAddress (.i2cWrite b a) none (.i2cRegister a)
  | i2cWriteRegister {reg d8 c b a} : Marker nf (.i2cWrite reg d8) (.i2cRegister c) (.i2cWrite b a) none (.i2cData a)
  | i2cWriteData {reg d8 c b a} : Marker nf (.i2cWrite reg d8) (.i2cData c) (.i2cWrite b a) none (.i2cWritten a)
  | i2cWriteStop {reg d8 c} : Marker nf (.i2cWrite reg d8) (.i2cWritten c) .i2cStop none (.ended .ok)
  | i2cWriteNack {reg d8 p} (fault : nf = true) (nack : p ∈ writeNacks) :
      Marker nf (.i2cWrite reg d8) p .i2cStop none (.ended .busFault)
  | i2cReadStart {reg len} : Marker nf (.i2cRead reg len) .first .i2cStart none .i2cAddress
  | i2cReadAddress {reg len b a} : Marker nf (.i2cRead reg len) .i2cAddress (.i2cWrite b a) none (.i2cRegister a)
  | i2cReadRegister {reg len c b a} : Marker nf (.i2cRead reg len) (.i2cRegister c) (.i2cWrite b a) none (.i2cRestart a)
  | i2cReadRestart {reg len c} : Marker nf (.i2cRead reg len) (.i2cRestart c) .i2cRstart none .i2cReadAddress
  | i2cReadAgain {reg len b a} : Marker nf (.i2cRead reg len) .i2cReadAddress (.i2cWrite b a) none (.i2cReadFirst a)
  | i2cReadFirst {reg len c last b} (more : 0 < len) :
      Marker nf (.i2cRead reg len) (.i2cReadFirst c) (.i2cRead last b) (some (0, b)) (.i2cByte 1)
  | i2cReadNone {reg len c} (all : len ≤ 0) : Marker nf (.i2cRead reg len) (.i2cReadFirst c) .i2cStop none (.ended .ok)
  | i2cReadByte {reg len j last b} (more : j < len) :
      Marker nf (.i2cRead reg len) (.i2cByte j) (.i2cRead last b) (some (j, b)) (.i2cByte (j + 1))
  | i2cReadStop {reg len j} (all : len ≤ j) : Marker nf (.i2cRead reg len) (.i2cByte j) .i2cStop none (.ended .ok)
  | i2cReadNack {reg len p} (fault : nf = true) (nack : p ∈ readNacks) :
      Marker nf (.i2cRead reg len) p .i2cStop none (.ended .busFault)
  | spiWriteAssert {instr d8} : Marker nf (.spiWrite instr d8) .first .csAssert none .spiInstr
  | spiWriteInstr {instr d8 b c} : Marker nf (.spiWrite instr d8) .spiInstr (.spiXfer b c) none .spiAddrHigh
  | spiWriteHigh {instr d8 b c} : Marker nf (.spiWrite instr d8) .spiAddrHigh (.spiXfer b c) none .spiAddrLow
  | spiWriteLow {instr d8 b c} : Marker nf (.spiWrite instr d8) .spiAddrLow (.spiXfer b c) none .spiData
  | spiWriteData {instr d8 b c} : Marker nf (.spiWrite instr d8) .spiData (.spiXfer b c) none .spiRelease
  | spiWriteRelease {instr d8} : Marker nf (.spiWrite instr d8) .spiRelease .csDeassert none (.ended .ok)
  | spiReadAssert {instr len} : Marker nf (.spiRead instr len) .first .csAssert none .spiInstr
  | spiReadInstr {instr len b c} : Marker nf (.spiRead instr len) .spiInstr (.spiXfer b c) none .spiAddrHigh
  | spiReadHigh {instr len b c} : Marker nf (.spiRead instr len) .spiAddrHigh (.spiXfer b c) none .spiAddrLow
  | spiReadLow {instr len b c} : Marker nf (.spiRead instr len) .spiAddrLow (.spiXfer b c) none (.spiByte 0)
  | spiReadByte {instr len j b c} (more : j < len) :
      Marker nf (.spiRead instr len) (.spiByte j) (.spiXfer b c) (some (j, c)) (.spiByte (j + 1))
  | spiReadRelease {instr len j} (all : len ≤ j) :
      Marker nf (.spiRead instr len) (.spiByte j) .csDeassert none (.ended .ok)
  | spiCmdAssert {instr} : Marker nf (.spiCmd instr) .first .csAssert none .spiInstr
  | spiCmdInstr {instr b c} : Marker nf (.spiCmd instr) .spiInstr (.spiXfer b c) none .spiRelease
  | spiCmdRelease {instr} : Marker nf (.spiCmd instr) .spiRelease .csDeassert none (.ended .ok)
  | spiCmdrAssert {instr len} : Marker nf (.spiCmdr instr len) .first .csAssert none .spiInstr
  | spiCmdrInstr {instr len b c} : Marker nf (.spiCmdr instr len) .spiInstr (.spiXfer b c) none (.spiByte 0)
  | spiCmdrByte {instr len j b c} (more : j < len) :
      Marker nf (.spiCmdr instr len) (.spiByte j) (.spiXfer b c) (some (j, c)) (.spiByte (j + 1))
  | spiCmdrRelease {instr len j} (all : len ≤ j) :
      Marker nf (.spiCmdr instr len) (.spiByte j) .csDeassert none (.ended .ok)
  | uartInitFbrd {f a v} : Marker nf .uartInit (.uartFbrd f) (.memWrite a v) none .uartLcr
  | uartInitLcr {a v} : Marker nf .uartInit .uartLcr (.memWrite a v) none .uartCr
  | uartInitCr {a v} : Marker nf .uartInit .uartCr (.memWrite a v) none (.ended .ok)
  | uartWriteFlags {d8 a v} : Marker nf (.uartWrite d8) .first (.memRead a v) none (.uartTx v)
  | uartWriteAgain {d8 fr a v} : Marker nf (.uartWrite d8) (.uartTx fr) (.memRead a v) none (.uartTx v)
  | uartWriteData {d8 fr a v} : Marker nf (.uartWrite d8) (.uartTx fr) (.memWrite a v) none (.ended .ok)
  | uartReadFlags {len a v} : Marker nf (.uartRead len) .first (.memRead a v) none (.uartRx 0 v)
  | uartReadAgain {len j fr a v} : Marker nf (.uartRead len) (.uartRx j fr) (.memRead a v) none (.uartRx j v)
  | uartReadByte {len j fr a v b} :
      Marker nf (.uartRead len) (.uartRx j fr) (.memRead a v) (some (j, b)) (.uartNext (j + 1))
  | uartReadNext {len j a v} (more : j < len) :
      Marker nf (.uartRead len) (.uartNext j) (.memRead a v) none (.uartRx j v)

/-- A command reaches its `complete(r)`: it stood there, or UART.READ has received its last byte (R165). -/
def Ends (i : Instr) (p : Pos) (r : Result) : Prop :=
  p = .ended r ∨ (r = .ok ∧ ∃ len j, i = .uartRead len ∧ p = .uartNext j ∧ len ≤ j)

/-- A command can begin its transaction: it is framed, its first primitive needs no more than its position, and its length,
where it has one, is valid (R107). UART.INIT begins with a write of its own (R155). -/
def opens : Instr → Bool
  | .uartWrite _ | .i2cWrite _ _ | .spiWrite _ _ | .spiCmd _ => true
  | .uartRead len | .i2cRead _ len | .spiRead _ len | .spiCmdr _ len => lenValid len
  | _ => false

/-- A position at which a command's transaction can stand, the first primitive included. -/
def Stands (nf : Bool) (i : Instr) (p : Pos) : Prop :=
  (p = .first ∧ opens i = true) ∨ posFits nf i p = true

/-- All that a step of command i at position p can do, as a condition on where it gets. -/
def Progress.Does (i : Instr) (p : Pos) (s : State) : Progress → Prop
  | .reached q t => ∃ e byte, Marker s.params.nackIsFault i p e byte q ∧ t = stored byte (performed e s)
  | .waits t => (∀ r, p ≠ .ended r) ∧ ∃ b, (∀ a, nextReply b s ≠ .answer a) ∧ t = popReply b s
  | .ended r => Ends i p r
  | .stray => ¬ Stands s.params.nackIsFault i p

/-! ### The primitives -/

/-- A primitive that moves no line is recorded, and its reply used up. -/
theorem performed_eq_record {e : Event} (hc : ∀ c, csAfter e c = c) (hh : ∀ c, heldAfter e c = c) (s : State) :
    performed e s = record e (popReply (eventBus e) s) := by
  simp [performed, record, hc, hh]

theorem record_storeRx_eq {e : Event} (hc : ∀ c, csAfter e c = c) (hh : ∀ c, heldAfter e c = c) (j : Nat) (b : Byte)
    (s : State) : record e (storeRx j b (popReply (eventBus e) s)) = stored (some (j, b)) (performed e s) := by
  rw [performed_eq_record hc hh]
  rfl

theorem performed_csAssert (s : State) : performed .csAssert s = record .csAssert { popReply .spi s with cs := true } := by
  simp [performed, record, csAfter, heldAfter, eventBus]

theorem performed_csDeassert (s : State) :
    performed .csDeassert s = record .csDeassert { popReply .spi s with cs := false } := by
  simp [performed, record, csAfter, heldAfter, eventBus]

theorem performed_i2cStart (s : State) : performed .i2cStart s = record .i2cStart { popReply .i2c s with held := true } := by
  simp [performed, record, csAfter, heldAfter, eventBus]

theorem performed_i2cStop (s : State) : performed .i2cStop s = record .i2cStop { popReply .i2c s with held := false } := by
  simp [performed, record, csAfter, heldAfter, eventBus]

section Primitives

variable {i : Instr} {p : Pos} {s : State}

theorem onBus_does {b : Bus} {k : Answer → State → Progress} (hp : ∀ r, p ≠ .ended r)
    (hk : ∀ a, (k a (popReply b s)).Does i p s) : (onBus b s k).Does i p s := by
  obtain ⟨a, -, e⟩ | ⟨h, e⟩ := onBus_cases b s k
  · rw [e]; exact hk a
  · rw [e]; exact ⟨hp, b, h, rfl⟩

theorem i2cStart_does {q : Pos} (hp : ∀ r, p ≠ .ended r) (h : Marker s.params.nackIsFault i p .i2cStart none q) :
    (i2cStart q s).Does i p s :=
  onBus_does hp fun _ => ⟨_, none, h, (performed_i2cStart s).symm⟩

theorem i2cStop_does {q : Pos} (hp : ∀ r, p ≠ .ended r) (h : Marker s.params.nackIsFault i p .i2cStop none q) :
    (i2cStop q s).Does i p s :=
  onBus_does hp fun _ => ⟨_, none, h, (performed_i2cStop s).symm⟩

theorem i2cRstart_does {q : Pos} (hp : ∀ r, p ≠ .ended r) (h : Marker s.params.nackIsFault i p .i2cRstart none q) :
    (i2cRstart q s).Does i p s :=
  onBus_does hp fun _ => ⟨_, none, h, (performed_eq_record (fun _ => rfl) (fun _ => rfl) s).symm⟩

theorem i2cWrite_does {b : Byte} {q : Ack → Pos} (hp : ∀ r, p ≠ .ended r)
    (h : ∀ a, Marker s.params.nackIsFault i p (.i2cWrite b a) none (q a)) : (i2cWrite b q s).Does i p s :=
  onBus_does hp fun a => ⟨_, none, h a.ack, (performed_eq_record (fun _ => rfl) (fun _ => rfl) s).symm⟩

theorem i2cRead_does {j : Nat} {last : Bool} {q : Pos} (hp : ∀ r, p ≠ .ended r)
    (h : ∀ b, Marker s.params.nackIsFault i p (.i2cRead last b) (some (j, b)) q) : (i2cRead j last q s).Does i p s :=
  onBus_does hp fun _ => ⟨_, some (j, _), h _, record_storeRx_eq (fun _ => rfl) (fun _ => rfl) j _ s⟩

theorem csAssert_does {q : Pos} (hp : ∀ r, p ≠ .ended r) (h : Marker s.params.nackIsFault i p .csAssert none q) :
    (csAssert q s).Does i p s :=
  onBus_does hp fun _ => ⟨_, none, h, (performed_csAssert s).symm⟩

theorem csDeassert_does {q : Pos} (hp : ∀ r, p ≠ .ended r) (h : Marker s.params.nackIsFault i p .csDeassert none q) :
    (csDeassert q s).Does i p s :=
  onBus_does hp fun _ => ⟨_, none, h, (performed_csDeassert s).symm⟩

theorem spiSend_does {b : Byte} {q : Pos} (hp : ∀ r, p ≠ .ended r)
    (h : ∀ c, Marker s.params.nackIsFault i p (.spiXfer b c) none q) : (spiSend b q s).Does i p s :=
  onBus_does hp fun _ => ⟨_, none, h _, (performed_eq_record (fun _ => rfl) (fun _ => rfl) s).symm⟩

theorem spiReceive_does {j : Nat} {q : Pos} (hp : ∀ r, p ≠ .ended r)
    (h : ∀ b c, Marker s.params.nackIsFault i p (.spiXfer b c) (some (j, c)) q) : (spiReceive j q s).Does i p s :=
  onBus_does hp fun _ => ⟨_, some (j, _), h _ _, record_storeRx_eq (fun _ => rfl) (fun _ => rfl) j _ s⟩

theorem uartReadFlags_does {q : Word → Pos} (hp : ∀ r, p ≠ .ended r)
    (h : ∀ a v, Marker s.params.nackIsFault i p (.memRead a v) none (q v)) : (uartReadFlags q s).Does i p s :=
  onBus_does hp fun _ => ⟨_, none, h _ _, (performed_eq_record (fun _ => rfl) (fun _ => rfl) s).symm⟩

theorem uartReceive_does {j : Nat} {q : Pos} (hp : ∀ r, p ≠ .ended r)
    (h : ∀ a v b, Marker s.params.nackIsFault i p (.memRead a v) (some (j, b)) q) : (uartReceive j q s).Does i p s :=
  onBus_does hp fun _ => ⟨_, some (j, _), h _ _ _, record_storeRx_eq (fun _ => rfl) (fun _ => rfl) j _ s⟩

theorem uartWriteReg_does {off : Nat} {v : Word} {q : Pos} (hp : ∀ r, p ≠ .ended r)
    (h : ∀ a, Marker s.params.nackIsFault i p (.memWrite a v) none q) : (uartWriteReg off v id q s).Does i p s :=
  onBus_does hp fun _ => ⟨_, none, h _, (performed_eq_record (fun _ => rfl) (fun _ => rfl) s).symm⟩

theorem checkAck_does {a : Ack} {g : Progress} (hp : ∀ r, p ≠ .ended r)
    (nack : s.params.nackIsFault = true → a = .nack →
      Marker s.params.nackIsFault i p .i2cStop none (.ended .busFault))
    (goOn : g.Does i p s) : (checkAck a s g).Does i p s := by
  obtain ⟨fault, hn, e⟩ | ⟨-, e⟩ := checkAck_cases a s g
  · rw [e]; exact i2cStop_does hp (nack fault hn)
  · rwa [e]

end Primitives

/-! ### The transactions, marker by marker -/

theorem i2cReadNext_does {reg : Byte} {len j : Nat} {p : Pos} {s : State} (hp : ∀ r, p ≠ .ended r)
    (more : j < len → ∀ last b,
      Marker s.params.nackIsFault (.i2cRead reg len) p (.i2cRead last b) (some (j, b)) (.i2cByte (j + 1)))
    (all : len ≤ j → Marker s.params.nackIsFault (.i2cRead reg len) p .i2cStop none (.ended .ok)) :
    (i2cReadNext len j s).Does (.i2cRead reg len) p s := by
  unfold i2cReadNext
  split
  · next h => exact i2cRead_does hp (more h _)
  · next h => exact i2cStop_does hp (all (not_lt.mp h))

theorem spiReadNext_does {i : Instr} {len j : Nat} {p : Pos} {s : State} (hp : ∀ r, p ≠ .ended r)
    (more : j < len → ∀ b c, Marker s.params.nackIsFault i p (.spiXfer b c) (some (j, c)) (.spiByte (j + 1)))
    (all : len ≤ j → Marker s.params.nackIsFault i p .csDeassert none (.ended .ok)) :
    (spiReadNext len j s).Does i p s := by
  unfold spiReadNext
  split
  · next h => exact spiReceive_does hp (more h)
  · next h => exact csDeassert_does hp (all (not_lt.mp h))

theorem i2cWriteStep_does (reg d8 : Byte) (p : Pos) (s : State) : (i2cWriteStep reg d8 p s).Does (.i2cWrite reg d8) p s := by
  unfold i2cWriteStep
  split
  · exact i2cStart_does (by simp) .i2cWriteStart
  · exact i2cWrite_does (by simp) fun _ => .i2cWriteAddress
  · exact checkAck_does (by simp) (fun f h => .i2cWriteNack f (by simp [writeNacks, h]))
      (i2cWrite_does (by simp) fun _ => .i2cWriteRegister)
  · exact checkAck_does (by simp) (fun f h => .i2cWriteNack f (by simp [writeNacks, h]))
      (i2cWrite_does (by simp) fun _ => .i2cWriteData)
  · exact checkAck_does (by simp) (fun f h => .i2cWriteNack f (by simp [writeNacks, h])) (i2cStop_does (by simp) .i2cWriteStop)
  · exact .inl rfl
  · intro h
    cases p <;> simp_all [Stands, posFits]

theorem i2cReadStep_does (reg : Byte) (len : Nat) (p : Pos) (s : State) :
    (i2cReadStep reg len p s).Does (.i2cRead reg len) p s := by
  unfold i2cReadStep
  split
  · exact i2cStart_does (by simp) .i2cReadStart
  · exact i2cWrite_does (by simp) fun _ => .i2cReadAddress
  · exact checkAck_does (by simp) (fun f h => .i2cReadNack f (by simp [readNacks, h]))
      (i2cWrite_does (by simp) fun _ => .i2cReadRegister)
  · exact checkAck_does (by simp) (fun f h => .i2cReadNack f (by simp [readNacks, h])) (i2cRstart_does (by simp) .i2cReadRestart)
  · exact i2cWrite_does (by simp) fun _ => .i2cReadAgain
  · exact checkAck_does (by simp) (fun f h => .i2cReadNack f (by simp [readNacks, h]))
      (i2cReadNext_does (by simp) (fun h _ _ => .i2cReadFirst h) fun h => .i2cReadNone h)
  · exact i2cReadNext_does (by simp) (fun h _ _ => .i2cReadByte h) fun h => .i2cReadStop h
  · exact .inl rfl
  · intro h
    cases p <;> simp_all [Stands, posFits]

theorem spiWriteStep_does (instr d8 : Byte) (p : Pos) (s : State) :
    (spiWriteStep instr d8 p s).Does (.spiWrite instr d8) p s := by
  unfold spiWriteStep
  split
  · exact csAssert_does (by simp) .spiWriteAssert
  · exact spiSend_does (by simp) fun _ => .spiWriteInstr
  · exact spiSend_does (by simp) fun _ => .spiWriteHigh
  · exact spiSend_does (by simp) fun _ => .spiWriteLow
  · exact spiSend_does (by simp) fun _ => .spiWriteData
  · exact csDeassert_does (by simp) .spiWriteRelease
  · exact .inl rfl
  · intro h
    cases p <;> simp_all [Stands, posFits]

theorem spiReadStep_does (instr : Byte) (len : Nat) (p : Pos) (s : State) :
    (spiReadStep instr len p s).Does (.spiRead instr len) p s := by
  unfold spiReadStep
  split
  · exact csAssert_does (by simp) .spiReadAssert
  · exact spiSend_does (by simp) fun _ => .spiReadInstr
  · exact spiSend_does (by simp) fun _ => .spiReadHigh
  · exact spiSend_does (by simp) fun _ => .spiReadLow
  · exact spiReadNext_does (by simp) (fun h _ _ => .spiReadByte h) fun h => .spiReadRelease h
  · exact .inl rfl
  · intro h
    cases p <;> simp_all [Stands, posFits]

theorem spiCmdStep_does (instr : Byte) (p : Pos) (s : State) : (spiCmdStep instr p s).Does (.spiCmd instr) p s := by
  unfold spiCmdStep
  split
  · exact csAssert_does (by simp) .spiCmdAssert
  · exact spiSend_does (by simp) fun _ => .spiCmdInstr
  · exact csDeassert_does (by simp) .spiCmdRelease
  · exact .inl rfl
  · intro h
    cases p <;> simp_all [Stands, posFits]

theorem spiCmdrStep_does (instr : Byte) (len : Nat) (p : Pos) (s : State) :
    (spiCmdrStep instr len p s).Does (.spiCmdr instr len) p s := by
  unfold spiCmdrStep
  split
  · exact csAssert_does (by simp) .spiCmdrAssert
  · exact spiSend_does (by simp) fun _ => .spiCmdrInstr
  · exact spiReadNext_does (by simp) (fun h _ _ => .spiCmdrByte h) fun h => .spiCmdrRelease h
  · exact .inl rfl
  · intro h
    cases p <;> simp_all [Stands, posFits]

theorem uartInitStep_does (p : Pos) (s : State) : (uartInitStep p s).Does .uartInit p s := by
  unfold uartInitStep
  split
  · exact uartWriteReg_does (by simp) fun _ => .uartInitFbrd
  · exact uartWriteReg_does (by simp) fun _ => .uartInitLcr
  · exact uartWriteReg_does (by simp) fun _ => .uartInitCr
  · exact .inl rfl
  · intro h
    cases p <;> simp_all [Stands, opens, posFits]

theorem uartWriteStep_does (d8 : Byte) (p : Pos) (s : State) : (uartWriteStep d8 p s).Does (.uartWrite d8) p s := by
  unfold uartWriteStep
  split
  · exact uartReadFlags_does (by simp) fun _ _ => .uartWriteFlags
  · split
    · exact uartReadFlags_does (by simp) fun _ _ => .uartWriteAgain
    · exact uartWriteReg_does (by simp) fun _ => .uartWriteData
  · exact .inl rfl
  · intro h
    cases p <;> simp_all [Stands, posFits]

theorem uartReadStep_does (len : Nat) (p : Pos) (s : State) : (uartReadStep len p s).Does (.uartRead len) p s := by
  unfold uartReadStep
  split
  · exact uartReadFlags_does (by simp) fun _ _ => .uartReadFlags
  · split
    · exact uartReadFlags_does (by simp) fun _ _ => .uartReadAgain
    · exact uartReceive_does (by simp) fun _ _ _ => .uartReadByte
  · next j =>
    split
    · next h => exact uartReadFlags_does (by simp) fun _ _ => .uartReadNext h
    · next h => exact .inr ⟨rfl, len, j, rfl, rfl, not_lt.mp h⟩
  · exact .inl rfl
  · intro h
    cases p <;> simp_all [Stands, posFits]

/-- All that a step inside a transaction can do, for every command and position. -/
theorem stepOf_does (i : Instr) (p : Pos) (s : State) : (stepOf i p s).Does i p s := by
  cases i with
  | uartInit => exact uartInitStep_does p s
  | uartWrite d8 => exact uartWriteStep_does d8 p s
  | uartRead len => exact uartReadStep_does len p s
  | i2cWrite reg d8 => exact i2cWriteStep_does reg d8 p s
  | i2cRead reg len => exact i2cReadStep_does reg len p s
  | spiWrite instr d8 => exact spiWriteStep_does instr d8 p s
  | spiRead instr len => exact spiReadStep_does instr len p s
  | spiCmd instr => exact spiCmdStep_does instr p s
  | spiCmdr instr len => exact spiCmdrStep_does instr len p s
  | _ => simp [stepOf, Progress.Does, Stands, opens, posFits]

/-! ### What holds of every marker -/

section Markers

variable {nf : Bool} {i : Instr} {p q : Pos} {e : Event} {byte : Option (Nat × Byte)}

/-- A primitive is an event of the sequencer (R13). -/
theorem Marker.busEvent (h : Marker nf i p e byte q) : busEvent e = true := by
  cases h <;> rfl

/-- It stands on the bus of its command. -/
theorem Marker.eventBus (h : Marker nf i p e byte q) : eventBus e = busOf i := by
  cases h <;> rfl

theorem Nacked.lines {p : Pos} (h : Nacked p) : csAt p = false ∧ heldAt p = true := by
  simp only [Nacked, writeNacks, readNacks, List.mem_cons, List.not_mem_nil, or_false] at h
  rcases h with (rfl | rfl | rfl) | (rfl | rfl | rfl) <;> exact ⟨rfl, rfl⟩

/-- The framing rules allow it, and lead to the lines of the next position (R181, R200). -/
theorem Marker.frameEvent (h : Marker nf i p e byte q) :
    frameEvent (some (csAt p, heldAt p)) e = some (csAt q, heldAt q) := by
  cases h with
  | i2cWriteNack _ nack =>
    obtain ⟨hc, hh⟩ := Nacked.lines (.inl nack)
    rw [hc, hh]
    rfl
  | i2cReadNack _ nack =>
    obtain ⟨hc, hh⟩ := Nacked.lines (.inr nack)
    rw [hc, hh]
    rfl
  | _ => rfl

/-- The lines move as the positions say. -/
theorem Marker.lines (h : Marker nf i p e byte q) : csAfter e (csAt p) = csAt q ∧ heldAfter e (heldAt p) = heldAt q := by
  cases h with
  | i2cWriteNack _ nack => exact ⟨(Nacked.lines (.inl nack)).1, rfl⟩
  | i2cReadNack _ nack => exact ⟨(Nacked.lines (.inr nack)).1, rfl⟩
  | _ => exact ⟨rfl, rfl⟩

/-- The length of a read, and 0 for every other command. -/
def readLen : Instr → Nat
  | .uartRead len | .i2cRead _ len | .spiRead _ len | .spiCmdr _ len => len
  | _ => 0

theorem Stands.i2cRead_lenValid {reg : Byte} {len : Nat} (hp : Stands nf (.i2cRead reg len) p) : lenValid len = true := by
  obtain ⟨-, h⟩ | h := hp
  · exact h
  · exact (Bool.and_eq_true_iff.mp h).1

/-- A transaction goes from a position of its command to another. -/
theorem Marker.posFits (hp : Stands nf i p) (h : Marker nf i p e byte q) : posFits nf i q = true := by
  cases h with
  | i2cReadNack fault nack => simp [Machine.posFits, hp.i2cRead_lenValid, fault]
  | uartReadFlags =>
    have := lenValid_iff.mp (show lenValid _ = true by simpa [Stands, opens, Machine.posFits] using hp)
    simp [Machine.posFits, lenValid_iff, this]
    omega
  | _ => simp_all [Stands, opens, Machine.posFits, lenValid]

/-- A received byte goes below the length of its read (R46). -/
theorem Marker.byte_lt {j : Nat} {b : Byte} (hp : Stands nf i p) (h : Marker nf i p e (some (j, b)) q) : j < readLen i := by
  cases h with
  | uartReadByte =>
    simp [Stands, opens, Machine.posFits] at hp
    exact hp.2
  | _ => assumption

/-- BUS_FAULT is reached only from the check of a NACK, with NACK_IS_FAULT (R182). -/
theorem Marker.nacked_of_busFault (h : Marker nf i p e byte (.ended .busFault)) : nf = true ∧ Nacked p := by
  cases h with
  | i2cWriteNack fault nack => exact ⟨fault, .inl nack⟩
  | i2cReadNack fault nack => exact ⟨fault, .inr nack⟩

theorem Marker.mem_readNacks {reg : Byte} {len : Nat} (h : Marker nf (.i2cRead reg len) p e byte (.ended .busFault)) :
    p ∈ readNacks := by
  cases h with
  | i2cReadNack fault nack => exact nack

theorem Marker.i2c_of_busFault (h : Marker nf i p e byte (.ended .busFault)) :
    (∃ reg d8, i = .i2cWrite reg d8) ∨ ∃ reg len, i = .i2cRead reg len := by
  cases h <;> simp

/-- A NACK that waits to be checked is the answer recorded in the same step. -/
theorem Marker.recorded_of_nacked (hq : Nacked q) (h : Marker nf i p e byte q) : ∃ b, e = .i2cWrite b .nack := by
  cases h <;> simp_all [Nacked, writeNacks, readNacks]

/-- Where a command reaches its `complete(r)`, both lines are inactive, and r is a result that its position allows. -/
theorem Ends.posFits {r : Result} (hp : Stands nf i p) (h : Ends i p r) :
    Machine.posFits nf i (.ended r) = true ∧ csAt p = false ∧ heldAt p = false := by
  obtain rfl | ⟨rfl, len, j, rfl, rfl, hj⟩ := h
  · exact ⟨by simpa [Stands] using hp, rfl, rfl⟩
  · have fits : Machine.posFits nf (.uartRead len) (.uartNext j) = true := by simpa [Stands] using hp
    simp only [Machine.posFits, Bool.and_eq_true] at fits ⊢
    exact ⟨⟨fits.1, rfl⟩, rfl, rfl⟩

theorem Ends.of_ne_ok {r : Result} (hr : r ≠ .ok) (h : Ends i p r) : p = .ended r := by
  obtain h | ⟨h, -⟩ := h
  · exact h
  · exact absurd h hr

/-- The results a transaction can end with (R292). -/
theorem result_of_posFits_ended {r : Result} (h : Machine.posFits nf i (.ended r) = true) :
    r = .ok ∨ (r = .busFault ∧ nf = true ∧ ((∃ reg d8, i = .i2cWrite reg d8) ∨ ∃ reg len, i = .i2cRead reg len)) := by
  cases i <;> simp_all [Machine.posFits] <;> tauto

end Markers

end Sys2Proof.Machine
end

section
/-! What one sequencer step of any command can do, said once for all sixteen: every property of a step is read off this
list. -/

namespace Sys2Proof.Machine

/-- A command at a position of its transaction takes the step of that position. -/
theorem exec_txn {s : State} {p : Pos} (h : s.phase = .txn p) (i : Instr) : exec i s = settle (stepOf i p s) s := by
  cases i with
  | uartInit | uartWrite | uartRead | i2cWrite | i2cRead | spiWrite | spiRead | spiCmd | spiCmdr => exact framed_txn h _ _
  | nop => simp [exec, execNop, atStart, h, stepOf, settle]
  | baudCalc => simp [exec, execBaudCalc, atStart, h, stepOf, settle]
  | asm16 k => simp [exec, execAsm16, atStart, h, stepOf, settle]
  | asmSample => simp [exec, execAsmSample, atStart, h, stepOf, settle]
  | pollInit => simp [exec, execPollInit, atStart, h, stepOf, settle]
  | pollStep => simp [exec, execPollStep, h, stepOf, settle]
  | pollRun => simp [exec, execPollRun, h, stepOf, settle]

/-- An attempt of a poll takes the steps of its status transaction (R251). -/
theorem statusStep_eq {s : State} {j : Instr} (h : statusTxn s = some j) (p : Pos) : statusStep p s = stepOf j p s := by
  obtain ⟨-, ⟨reg, rfl, -⟩ | ⟨instr, rfl⟩ | ⟨instr, rfl⟩ | rfl⟩ := statusTxn_some h <;> simp [statusStep, h, stepOf]

theorem statusStep_none {s : State} (h : statusTxn s = none) (p : Pos) : statusStep p s = .stray := by
  simp [statusStep, h]

/-- A status transaction can begin. -/
theorem opens_of_statusTxn {s : State} {j : Instr} (h : statusTxn s = some j) : opens j = true := by
  obtain ⟨-, ⟨reg, rfl, -⟩ | ⟨instr, rfl⟩ | ⟨instr, rfl⟩ | rfl⟩ := statusTxn_some h <;> rfl

/-- The commands that make transitions: the phase in which they do, and the phase that follows (R258, R262). -/
inductive Polls : Instr → Phase → Phase → Prop
  | step : Polls .pollStep .start .pollEnd
  | run : Polls .pollRun .pollTest .pollTest

/-- All that one step of command i can do from s. -/
inductive Acts (s : State) : Instr → State → Prop
  | waits {i b} (running : s.phase ≠ .idle) (notEnded : ∀ r, s.phase ≠ .pollAttempt (.ended r))
      (unanswered : ∀ a, nextReply b s ≠ .answer a) : Acts s i (popReply b s)
  | marker {i p e byte q} (place : s.phase = .txn p ∨ (s.phase = .start ∧ p = .first ∧ opens i = true))
      (moves : Marker s.params.nackIsFault i p e byte q) : Acts s i (goto (.txn q) (stored byte (performed e s)))
  | ends {i p r} (place : s.phase = .txn p) (done : Ends i p r) : Acts s i (complete r s)
  | completes {i r} (place : s.phase = .start) (code : r ∈ codes i) (noFault : r ≠ .busFault) : Acts s i (complete r s)
  | divides {n f} (place : s.phase = .start) : Acts s .baudCalc (complete .ok (setDivisor n f s))
  | divisorWrite {n f x a v} (place : s.phase = .start) :
      Acts s .uartInit (goto (.txn (.uartFbrd x)) (setDivisor n f (performed (.memWrite a v) s)))
  | assembles {k v} (place : s.phase = .start) : Acts s (.asm16 k) (complete .ok { s with asmv := v })
  | samples {v} (place : s.phase = .start) : Acts s .asmSample (complete .ok { s with ch := v })
  | arms (place : s.phase = .start) : Acts s .pollInit (complete .ok (armPoll s))
  | armsRun (place : s.phase = .start) (ok : txnOk s = true) : Acts s .pollRun (goto .pollTest (armPoll s))
  | pollCompletes {i} (place : (i = .pollStep ∧ (s.phase = .start ∨ s.phase = .pollEnd)) ∨ (i = .pollRun ∧ s.phase = .pollTest)) :
      Acts s i (complete (codeOf s.pollState) s)
  | timesOut {i before after} (poll : Polls i before after) (place : s.phase = before) (idle : s.pollState = .idle)
      (spent : s.pollMax ≤ s.pollAttempts) : Acts s i { s with pollState := .timeout, phase := after }
  | evaluates {i before after} (poll : Polls i before after) (place : s.phase = before) (evaluate : s.pollState = .evaluate) :
      Acts s i { s with pollState := evaluated s, phase := after }
  | retries {i before after} (poll : Polls i before after) (place : s.phase = before) (retry : s.pollState = .retry) :
      Acts s i { s with pollState := .idle, phase := after }
  | attempt {i before after j p e byte q} (poll : Polls i before after) (txn : statusTxn s = some j)
      (place : s.phase = .pollAttempt p ∨
        (s.phase = before ∧ p = .first ∧ s.pollState = .idle ∧ s.pollAttempts < s.pollMax))
      (moves : Marker s.params.nackIsFault j p e byte q) :
      Acts s i (goto (.pollAttempt q) (stored byte (performed e s)))
  | attemptEnds {i before after j p r} (poll : Polls i before after) (txn : statusTxn s = some j)
      (place : s.phase = .pollAttempt p) (done : Ends j p r) : Acts s i (attemptDone r after s)

section Inversion

variable {i : Instr} {s t : State}

/-- A step of a transaction that begins or goes on. -/
theorem acts_of_settle {p : Pos} (place : s.phase = .txn p ∨ (s.phase = .start ∧ p = .first ∧ opens i = true))
    (h : settle (stepOf i p s) s = .next t) : Acts s i t := by
  have does := stepOf_does i p s
  obtain ⟨q, u, e, rfl⟩ | e | ⟨r, e, rfl⟩ := settle_next h
  · rw [e] at does
    obtain ⟨e, byte, moves, rfl⟩ := does
    exact .marker place moves
  · rw [e] at does
    obtain ⟨-, b, unanswered, rfl⟩ := does
    obtain hp | ⟨hp, -⟩ := place <;> exact .waits (by simp [hp]) (by simp [hp]) unanswered
  · rw [e] at does
    obtain hp | ⟨-, rfl, -⟩ := place
    · exact .ends hp does
    · simp [Progress.Does, Ends] at does

theorem acts_of_framed {next : Pos → State → Progress} {enter : Out} (hn : ∀ p, next p s = stepOf i p s)
    (he : s.phase = .start → enter = .next t → Acts s i t) (h : framed s enter next = .next t) : Acts s i t := by
  obtain ⟨hp, h⟩ | ⟨p, hp, h⟩ := framed_next h
  · exact he hp h
  · rw [hn] at h
    exact acts_of_settle (.inl hp) h

/-- A read checks its length before its first primitive (R107). -/
theorem acts_of_lenChecked {len : Nat} (hp : s.phase = .start) (hc : lenValid len = true → opens i = true)
    (hr : .invalidLength ∈ codes i)
    (h : (if lenValid len then settle (stepOf i .first s) s else .next (complete .invalidLength s)) = .next t) :
    Acts s i t := by
  split at h
  · next hl => exact acts_of_settle (.inr ⟨hp, rfl, hc hl⟩) h
  · simp only [Host.Outcome.next.injEq] at h
    subst h
    exact .completes hp hr (by simp)

/-- An I2C command checks its device address first (R180). -/
theorem acts_of_devChecked {enter : Out} (hp : s.phase = .start) (hr : .invalidConfig ∈ codes i)
    (he : enter = .next t → Acts s i t)
    (h : (if s.i2cDev = 0 then .next (complete .invalidConfig s) else enter) = .next t) : Acts s i t := by
  split at h
  · simp only [Host.Outcome.next.injEq] at h
    subst h
    exact .completes hp hr (by simp)
  · exact he h

theorem acts_of_attemptStep {before after : Phase} {p : Pos} (poll : Polls i before after)
    (place : s.phase = .pollAttempt p ∨
      (s.phase = before ∧ p = .first ∧ s.pollState = .idle ∧ s.pollAttempts < s.pollMax))
    (h : attemptStep after p s = .next t) : Acts s i t := by
  cases htxn : statusTxn s with
  | none => simp [attemptStep, statusStep_none htxn] at h
  | some j =>
    have does := stepOf_does j p s
    rw [← statusStep_eq htxn] at does
    obtain ⟨q, u, e, rfl⟩ | e | ⟨r, e, rfl⟩ := attemptStep_next h
    · rw [e] at does
      obtain ⟨e, byte, moves, rfl⟩ := does
      exact .attempt poll htxn place moves
    · rw [e] at does
      obtain ⟨notEnded, b, unanswered, rfl⟩ := does
      refine .waits ?_ ?_ unanswered
      · obtain hp | ⟨hp, -⟩ := place
        · simp [hp]
        · cases poll <;> simp [hp]
      · obtain hp | ⟨hp, -⟩ := place
        · simpa [hp] using notEnded
        · cases poll <;> simp [hp]
    · rw [e] at does
      obtain hp | ⟨-, rfl, -⟩ := place
      · exact .attemptEnds poll htxn hp does
      · simp [Progress.Does, Ends] at does

theorem acts_of_transition {before after : Phase} (poll : Polls i before after) (place : s.phase = before)
    (h : transition after s = .next t) : Acts s i t := by
  obtain ⟨idle, spent, rfl⟩ | ⟨idle, budget, h⟩ | ⟨evaluate, rfl⟩ | ⟨retry, rfl⟩ := transition_next h
  · exact .timesOut poll place idle spent
  · exact acts_of_attemptStep poll (.inr ⟨place, rfl, idle, BitVec.not_le.mp budget⟩) h
  · exact .evaluates poll place evaluate
  · exact .retries poll place retry

theorem acts_of_execBaudCalc (h : execBaudCalc s = .next t) : Acts s .baudCalc t := by
  obtain ⟨hp, h⟩ := atStart_next h
  split at h <;> simp only [Host.Outcome.next.injEq] at h <;> subst h
  · exact .completes hp (by simp [codes]) (by simp)
  · exact .divides hp

theorem record_setDivisor (n f a : Nat) (v : Word) (s : State) :
    record (.memWrite a v) (setDivisor n f (popReply .uart s)) = setDivisor n f (performed (.memWrite a v) s) := by
  rw [performed_eq_record (fun _ => rfl) fun _ => rfl]
  rfl

theorem acts_of_execUartInit (h : execUartInit s = .next t) : Acts s .uartInit t := by
  refine acts_of_framed (i := .uartInit) (fun _ => rfl) (fun hp he => ?_) h
  split at he
  · simp only [Host.Outcome.next.injEq] at he
    subst he
    exact .completes hp (by simp [codes]) (by simp)
  · next n f _ =>
    obtain ⟨a, -, e⟩ | ⟨unanswered, e⟩ := uartWriteReg_cases s.params.uartIbrdOff ((BitVec.ofNat 16 n).setWidth 32)
      (setDivisor n f) (.uartFbrd (BitVec.ofNat 6 f)) s <;>
    rw [e, settle, Host.Outcome.next.injEq] at he <;> subst he
    · rw [record_setDivisor]
      exact .divisorWrite hp
    · exact .waits (by simp [hp]) (by simp [hp]) unanswered

theorem acts_of_execAsm16 {k : Nat} (h : execAsm16 k s = .next t) : Acts s (.asm16 k) t := by
  obtain ⟨hp, h⟩ := atStart_next h
  split at h <;> simp only [Host.Outcome.next.injEq] at h <;> subst h
  · exact .completes hp (by simp [codes]) (by simp)
  · exact .assembles hp

theorem acts_of_execPollInit (h : execPollInit s = .next t) : Acts s .pollInit t := by
  obtain ⟨hp, h⟩ := atStart_next h
  split at h <;> simp only [Host.Outcome.next.injEq] at h <;> subst h
  · exact .arms hp
  · exact .completes hp (by simp [codes]) (by simp)

theorem acts_of_execPollStep (h : execPollStep s = .next t) : Acts s .pollStep t := by
  unfold execPollStep at h
  split at h
  · next hp =>
    split_ifs at h
    · simp only [Host.Outcome.next.injEq] at h
      subst h
      exact .pollCompletes (.inl ⟨rfl, .inl hp⟩)
    · simp only [Host.Outcome.next.injEq] at h
      subst h
      exact .completes hp (by simp [codes]) (by simp)
    · exact acts_of_transition .step hp h
  · next hp => exact acts_of_attemptStep .step (.inl hp) h
  · next hp =>
    simp only [Host.Outcome.next.injEq] at h
    subst h
    exact .pollCompletes (.inl ⟨rfl, .inr hp⟩)
  · simp at h

theorem acts_of_execPollRun (h : execPollRun s = .next t) : Acts s .pollRun t := by
  unfold execPollRun at h
  split at h
  · next hp =>
    split at h <;> simp only [Host.Outcome.next.injEq] at h <;> subst h
    · exact .armsRun hp (by assumption)
    · exact .completes hp (by simp [codes]) (by simp)
  · next hp =>
    split at h
    · simp only [Host.Outcome.next.injEq] at h
      subst h
      exact .pollCompletes (.inr ⟨rfl, hp⟩)
    · exact acts_of_transition .run hp h
  · next hp => exact acts_of_attemptStep .run (.inl hp) h
  · simp at h

/-- Every step of a command is one of the list. -/
theorem acts_of_exec (h : exec i s = .next t) : Acts s i t := by
  cases i with
  | nop =>
    obtain ⟨hp, h⟩ := atStart_next h
    simp only [Host.Outcome.next.injEq] at h
    subst h
    exact .completes hp (by simp [codes]) (by simp)
  | baudCalc => exact acts_of_execBaudCalc h
  | uartInit => exact acts_of_execUartInit h
  | uartWrite d8 => exact acts_of_framed (fun _ => rfl) (fun hp he => acts_of_settle (.inr ⟨hp, rfl, rfl⟩) he) h
  | uartRead len => exact acts_of_framed (fun _ => rfl) (fun hp => acts_of_lenChecked hp id (by simp [codes])) h
  | i2cWrite reg d8 =>
    refine acts_of_framed (fun _ => rfl) (fun hp => acts_of_devChecked hp (by simp [codes]) fun he => ?_) h
    exact acts_of_settle (.inr ⟨hp, rfl, rfl⟩) he
  | i2cRead reg len =>
    refine acts_of_framed (fun _ => rfl) (fun hp => acts_of_devChecked hp (by simp [codes]) fun he => ?_) h
    exact acts_of_lenChecked hp id (by simp [codes]) he
  | spiWrite instr d8 => exact acts_of_framed (fun _ => rfl) (fun hp he => acts_of_settle (.inr ⟨hp, rfl, rfl⟩) he) h
  | spiRead instr len => exact acts_of_framed (fun _ => rfl) (fun hp => acts_of_lenChecked hp id (by simp [codes])) h
  | spiCmd instr => exact acts_of_framed (fun _ => rfl) (fun hp he => acts_of_settle (.inr ⟨hp, rfl, rfl⟩) he) h
  | spiCmdr instr len => exact acts_of_framed (fun _ => rfl) (fun hp => acts_of_lenChecked hp id (by simp [codes])) h
  | asm16 k => exact acts_of_execAsm16 h
  | asmSample =>
    obtain ⟨hp, h⟩ := atStart_next h
    simp only [Host.Outcome.next.injEq] at h
    subst h
    exact .samples hp
  | pollInit => exact acts_of_execPollInit h
  | pollStep => exact acts_of_execPollStep h
  | pollRun => exact acts_of_execPollRun h

end Inversion

end Sys2Proof.Machine
end

section
/-! What a completed primitive leaves as it was, field by field. -/

namespace Sys2Proof.Machine

@[simp] theorem performed_cur (e : Event) (s : State) : (performed e s).cur = s.cur := by simp [performed]
@[simp] theorem performed_busy (e : Event) (s : State) : (performed e s).busy = s.busy := by simp [performed]
@[simp] theorem performed_done (e : Event) (s : State) : (performed e s).done = s.done := by simp [performed]
@[simp] theorem performed_reject (e : Event) (s : State) : (performed e s).reject = s.reject := by simp [performed]
@[simp] theorem performed_result (e : Event) (s : State) : (performed e s).result = s.result := by simp [performed]
@[simp] theorem performed_i2cDev (e : Event) (s : State) : (performed e s).i2cDev = s.i2cDev := by simp [performed]
@[simp] theorem performed_maddr (e : Event) (s : State) : (performed e s).maddr = s.maddr := by simp [performed]
@[simp] theorem performed_pollMask (e : Event) (s : State) : (performed e s).pollMask = s.pollMask := by simp [performed]
@[simp] theorem performed_pollMatch (e : Event) (s : State) : (performed e s).pollMatch = s.pollMatch := by simp [performed]
@[simp] theorem performed_pollMax (e : Event) (s : State) : (performed e s).pollMax = s.pollMax := by simp [performed]
@[simp] theorem performed_pollTxn (e : Event) (s : State) : (performed e s).pollTxn = s.pollTxn := by simp [performed]
@[simp] theorem performed_pollLast (e : Event) (s : State) : (performed e s).pollLast = s.pollLast := by simp [performed]
@[simp] theorem performed_pollState (e : Event) (s : State) : (performed e s).pollState = s.pollState := by simp [performed]
@[simp] theorem performed_pollAttempts (e : Event) (s : State) : (performed e s).pollAttempts = s.pollAttempts := by simp [performed]
@[simp] theorem performed_asmv (e : Event) (s : State) : (performed e s).asmv = s.asmv := by simp [performed]
@[simp] theorem performed_ch (e : Event) (s : State) : (performed e s).ch = s.ch := by simp [performed]
@[simp] theorem performed_ibrd (e : Event) (s : State) : (performed e s).ibrd = s.ibrd := by simp [performed]
@[simp] theorem performed_fbrd (e : Event) (s : State) : (performed e s).fbrd = s.fbrd := by simp [performed]
@[simp] theorem performed_phase (e : Event) (s : State) : (performed e s).phase = s.phase := by simp [performed]
@[simp] theorem performed_params (e : Event) (s : State) : (performed e s).params = s.params := by simp [performed]
@[simp] theorem performed_agenda (e : Event) (s : State) : (performed e s).agenda = s.agenda := by simp [performed]
@[simp] theorem performed_rxbuf (e : Event) (s : State) : (performed e s).rxbuf = s.rxbuf := by simp [performed]
@[simp] theorem performed_cs (e : Event) (s : State) : (performed e s).cs = csAfter e s.cs := rfl
@[simp] theorem performed_held (e : Event) (s : State) : (performed e s).held = heldAfter e s.held := rfl
@[simp] theorem performed_history (e : Event) (s : State) : (performed e s).history = s.history ++ [e] := rfl

@[simp] theorem stored_cur (byte : Option (Nat × Byte)) (s : State) : (stored byte s).cur = s.cur := by
  cases byte <;> rfl
@[simp] theorem stored_busy (byte : Option (Nat × Byte)) (s : State) : (stored byte s).busy = s.busy := by
  cases byte <;> rfl
@[simp] theorem stored_done (byte : Option (Nat × Byte)) (s : State) : (stored byte s).done = s.done := by
  cases byte <;> rfl
@[simp] theorem stored_reject (byte : Option (Nat × Byte)) (s : State) : (stored byte s).reject = s.reject := by
  cases byte <;> rfl
@[simp] theorem stored_result (byte : Option (Nat × Byte)) (s : State) : (stored byte s).result = s.result := by
  cases byte <;> rfl
@[simp] theorem stored_i2cDev (byte : Option (Nat × Byte)) (s : State) : (stored byte s).i2cDev = s.i2cDev := by
  cases byte <;> rfl
@[simp] theorem stored_maddr (byte : Option (Nat × Byte)) (s : State) : (stored byte s).maddr = s.maddr := by
  cases byte <;> rfl
@[simp] theorem stored_pollMask (byte : Option (Nat × Byte)) (s : State) : (stored byte s).pollMask = s.pollMask := by
  cases byte <;> rfl
@[simp] theorem stored_pollMatch (byte : Option (Nat × Byte)) (s : State) : (stored byte s).pollMatch = s.pollMatch := by
  cases byte <;> rfl
@[simp] theorem stored_pollMax (byte : Option (Nat × Byte)) (s : State) : (stored byte s).pollMax = s.pollMax := by
  cases byte <;> rfl
@[simp] theorem stored_pollTxn (byte : Option (Nat × Byte)) (s : State) : (stored byte s).pollTxn = s.pollTxn := by
  cases byte <;> rfl
@[simp] theorem stored_pollLast (byte : Option (Nat × Byte)) (s : State) : (stored byte s).pollLast = s.pollLast := by
  cases byte <;> rfl
@[simp] theorem stored_pollState (byte : Option (Nat × Byte)) (s : State) : (stored byte s).pollState = s.pollState := by
  cases byte <;> rfl
@[simp] theorem stored_pollAttempts (byte : Option (Nat × Byte)) (s : State) : (stored byte s).pollAttempts = s.pollAttempts := by
  cases byte <;> rfl
@[simp] theorem stored_asmv (byte : Option (Nat × Byte)) (s : State) : (stored byte s).asmv = s.asmv := by
  cases byte <;> rfl
@[simp] theorem stored_ch (byte : Option (Nat × Byte)) (s : State) : (stored byte s).ch = s.ch := by
  cases byte <;> rfl
@[simp] theorem stored_ibrd (byte : Option (Nat × Byte)) (s : State) : (stored byte s).ibrd = s.ibrd := by
  cases byte <;> rfl
@[simp] theorem stored_fbrd (byte : Option (Nat × Byte)) (s : State) : (stored byte s).fbrd = s.fbrd := by
  cases byte <;> rfl
@[simp] theorem stored_phase (byte : Option (Nat × Byte)) (s : State) : (stored byte s).phase = s.phase := by
  cases byte <;> rfl
@[simp] theorem stored_params (byte : Option (Nat × Byte)) (s : State) : (stored byte s).params = s.params := by
  cases byte <;> rfl
@[simp] theorem stored_agenda (byte : Option (Nat × Byte)) (s : State) : (stored byte s).agenda = s.agenda := by
  cases byte <;> rfl
@[simp] theorem stored_cs (byte : Option (Nat × Byte)) (s : State) : (stored byte s).cs = s.cs := by
  cases byte <;> rfl
@[simp] theorem stored_held (byte : Option (Nat × Byte)) (s : State) : (stored byte s).held = s.held := by
  cases byte <;> rfl
@[simp] theorem stored_history (byte : Option (Nat × Byte)) (s : State) : (stored byte s).history = s.history := by
  cases byte <;> rfl

/-- A wait for the transport moves no register (R81). -/
theorem statusTxn_popReply (b : Bus) (s : State) : statusTxn (popReply b s) = statusTxn s :=
  statusTxn_congr (by simp) (by simp)

theorem statusTxn_stored_performed (byte : Option (Nat × Byte)) (e : Event) (s : State) :
    statusTxn (stored byte (performed e s)) = statusTxn s :=
  statusTxn_congr (by simp) (by simp)

end Sys2Proof.Machine
end

section
/-! The invariant of every step, in parts: the phase, the lines, the poll registers and the history (R52, R93, R181, R200,
R267). -/

namespace Sys2Proof.Machine

/-- CS as the phase says (R200). -/
def csIn (ph : Phase) : Bool := (posOf ph).elim false csAt

/-- HELD as the phase says (R181). -/
def heldIn (ph : Phase) : Bool := (posOf ph).elim false heldAt

/-- `consistent`, in parts. -/
structure Consistent (s : State) : Prop where
  phase : phaseFits s = true
  cs : s.cs = csIn s.phase
  held : s.held = heldIn s.phase
  poll : pollFits s = true
  framed : framing s.history = some (s.cs, s.held)

theorem linesFit_iff {s : State} : linesFit s = true ↔ s.cs = csIn s.phase ∧ s.held = heldIn s.phase := by
  unfold linesFit csIn heldIn
  cases posOf s.phase <;> simp

theorem consistent_iff {s : State} : consistent s = true ↔ Consistent s := by
  simp only [consistent, Bool.and_eq_true, linesFit_iff, beq_iff_eq]
  constructor
  · rintro ⟨⟨⟨phase, cs, held⟩, poll⟩, framed⟩
    exact ⟨phase, cs, held, poll, framed⟩
  · rintro ⟨phase, cs, held, poll, framed⟩
    exact ⟨⟨⟨phase, cs, held⟩, poll⟩, framed⟩

theorem runs_iff {s : State} {i : Instr} : runs s i = true ↔ decode s.cur = .ok i := by
  unfold runs
  cases decode s.cur <;> simp [BEq.beq]

theorem framing_append (h : List Event) (e : Event) : framing (h ++ [e]) = frameEvent (framing h) e := by
  simp [framing]

/-! ### The phase -/

section PhaseFits

variable {s : State} {i j : Instr} {p : Pos}

theorem phaseFits_txn (hp : s.phase = .txn p) (hd : decode s.cur = .ok i) :
    phaseFits s = true ↔ s.busy = true ∧ posFits s.params.nackIsFault i p = true := by
  simp [phaseFits, hp, hd]

theorem phaseFits_pollAttempt (hp : s.phase = .pollAttempt p) (ht : statusTxn s = some j) :
    phaseFits s = true ↔ s.busy = true ∧ (decode s.cur = .ok .pollRun ∨ decode s.cur = .ok .pollStep) ∧
      s.pollState = .idle ∧ s.pollAttempts < s.pollMax ∧ posFits s.params.nackIsFault j p = true := by
  simp [phaseFits, hp, ht, runs_iff, and_assoc]

theorem phaseFits_pollTest (hp : s.phase = .pollTest) :
    phaseFits s = true ↔ s.busy = true ∧ decode s.cur = .ok .pollRun ∧ txnOk s = true := by
  simp [phaseFits, hp, runs_iff, and_assoc]

theorem phaseFits_pollEnd (hp : s.phase = .pollEnd) :
    phaseFits s = true ↔ s.busy = true ∧ decode s.cur = .ok .pollStep := by
  simp [phaseFits, hp, runs_iff]

theorem phaseFits_start (hp : s.phase = .start) : phaseFits s = true ↔ s.busy = true := by
  simp [phaseFits, hp]

theorem phaseFits_idle (hp : s.phase = .idle) : phaseFits s = true ↔ s.busy = false := by
  simp [phaseFits, hp]

end PhaseFits

/-- A quiescent core stands at no statement (R52, R134). -/
theorem Consistent.phase_of_idle {s : State} (hc : Consistent s) (hb : s.busy = false) : s.phase = .idle := by
  have h := hc.phase
  unfold phaseFits at h
  split at h <;> simp_all

theorem Consistent.phase_ne_idle {s : State} (hc : Consistent s) (hb : s.busy = true) : s.phase ≠ .idle := by
  intro hp
  have h := (phaseFits_idle hp).mp hc.phase
  simp [hb] at h

/-! ### The steps of the sequencer -/

section Steps

variable {s t : State} {i : Instr}

theorem Consistent.popReply (hc : Consistent s) (b : Bus) : Consistent (popReply b s) := by
  have h := consistent_iff.mpr hc
  refine consistent_iff.mp ?_
  simpa [consistent, phaseFits, linesFit, pollFits, runs, txnOk, statusTxn_popReply] using h

/-- A completion outside every frame (R134). -/
theorem Consistent.complete (hc : Consistent s) (cs : s.cs = false) (held : s.held = false) (r : Result) :
    Consistent (complete r s) where
  phase := rfl
  cs := cs
  held := held
  poll := hc.poll
  framed := hc.framed

/-- Where the phase holds no position, both lines are inactive. -/
theorem Consistent.inactive (hc : Consistent s) (hp : csIn s.phase = false ∧ heldIn s.phase = false) :
    s.cs = false ∧ s.held = false :=
  ⟨hc.cs.trans hp.1, hc.held.trans hp.2⟩

theorem Consistent.complete_of_start (hc : Consistent s) (hp : s.phase = .start) (r : Result) :
    Consistent (Machine.complete r s) := by
  obtain ⟨cs, held⟩ := hc.inactive (by rw [hp]; exact ⟨rfl, rfl⟩)
  exact hc.complete cs held r

theorem Consistent.armPoll (hc : Consistent s) (hp : s.phase = .start) : Consistent (armPoll s) where
  phase := by
    have h := (phaseFits_start hp).mp hc.phase
    exact (phaseFits_start (s := Machine.armPoll s) hp).mpr h
  cs := hc.cs
  held := hc.held
  poll := rfl
  framed := hc.framed

theorem Consistent.armsRun (hc : Consistent s) (hb : s.busy = true) (hd : decode s.cur = .ok .pollRun)
    (hp : s.phase = .start) (ok : txnOk s = true) : Consistent (goto .pollTest (Machine.armPoll s)) := by
  have cs := hc.cs
  have held := hc.held
  rw [hp] at cs held
  exact ⟨(phaseFits_pollTest rfl).mpr ⟨hb, hd, ok⟩, cs, held, rfl, hc.framed⟩

/-- The first write of UART.INIT, outside every frame (R155). -/
theorem Consistent.divisorWrite (hc : Consistent s) (hb : s.busy = true) (hd : decode s.cur = .ok .uartInit)
    (hp : s.phase = .start) (n f a : Nat) (v : Word) (x : BitVec 6) :
    Consistent (goto (.txn (.uartFbrd x)) (setDivisor n f (performed (.memWrite a v) s))) := by
  obtain ⟨cs, held⟩ := hc.inactive (by rw [hp]; exact ⟨rfl, rfl⟩)
  have framed : framing (s.history ++ [.memWrite a v]) = some (false, false) := by
    rw [framing_append, hc.framed, cs, held]
    rfl
  refine ⟨(phaseFits_txn (i := .uartInit) rfl (by simpa using hd)).mpr ⟨by simpa using hb, rfl⟩, ?_, ?_, ?_, ?_⟩
  · simpa [csAfter, csIn, posOf, csAt] using cs
  · simpa [heldAfter, heldIn, posOf, heldAt] using held
  · simpa [pollFits] using hc.poll
  · simpa [csAfter, heldAfter, cs, held] using framed

/-- A primitive at p leaves the lines and the history as its next position says. -/
theorem Consistent.lines_of_marker {nf : Bool} {p q : Pos} {e : Event} {byte : Option (Nat × Byte)} (hc : Consistent s)
    (cs : s.cs = csAt p) (held : s.held = heldAt p) (h : Marker nf i p e byte q) :
    csAfter e s.cs = csAt q ∧ heldAfter e s.held = heldAt q ∧
      framing (s.history ++ [e]) = some (csAfter e s.cs, heldAfter e s.held) := by
  obtain ⟨hcs, hheld⟩ := h.lines
  rw [framing_append, hc.framed, cs, held, h.frameEvent, hcs, hheld]
  exact ⟨rfl, rfl, rfl⟩

/-- A step inside the command's own transaction. -/
theorem Consistent.marker {p q : Pos} {e : Event} {byte : Option (Nat × Byte)} (hc : Consistent s) (hb : s.busy = true)
    (hd : decode s.cur = .ok i) (place : s.phase = .txn p ∨ (s.phase = .start ∧ p = .first ∧ opens i = true))
    (h : Marker s.params.nackIsFault i p e byte q) : Consistent (goto (.txn q) (stored byte (performed e s))) := by
  have stands : Stands s.params.nackIsFault i p := by
    obtain hp | ⟨-, hf, ho⟩ := place
    · exact .inr ((phaseFits_txn hp hd).mp hc.phase).2
    · exact .inl ⟨hf, ho⟩
  have lines : s.cs = csAt p ∧ s.held = heldAt p := by
    rw [hc.cs, hc.held]
    obtain hp | ⟨hp, rfl, -⟩ := place <;> rw [hp] <;> exact ⟨rfl, rfl⟩
  obtain ⟨cs, held, framed⟩ := hc.lines_of_marker lines.1 lines.2 h
  refine ⟨(phaseFits_txn (i := i) rfl (by simpa using hd)).mpr ⟨by simpa using hb, ?_⟩, by simpa [csIn, posOf] using cs,
    by simpa [heldIn, posOf] using held, ?_, by simpa using framed⟩
  · simpa using h.posFits stands
  · simpa [pollFits] using hc.poll

theorem Polls.decode {before after : Phase} (poll : Polls i before after) :
    (i = .pollRun ∨ i = .pollStep) ∧ csIn before = false ∧ heldIn before = false := by
  cases poll <;> exact ⟨by simp, rfl, rfl⟩

/-- A step inside an attempt of a poll. -/
theorem Consistent.attempt {before after : Phase} {j : Instr} {p q : Pos} {e : Event} {byte : Option (Nat × Byte)}
    (hc : Consistent s) (hb : s.busy = true) (hd : Sys2Proof.decode s.cur = .ok i) (poll : Polls i before after)
    (txn : statusTxn s = some j)
    (place : s.phase = .pollAttempt p ∨ (s.phase = before ∧ p = .first ∧ s.pollState = .idle ∧ s.pollAttempts < s.pollMax))
    (h : Marker s.params.nackIsFault j p e byte q) : Consistent (goto (.pollAttempt q) (stored byte (performed e s))) := by
  have facts : Stands s.params.nackIsFault j p ∧ s.pollState = .idle ∧ s.pollAttempts < s.pollMax := by
    obtain hp | ⟨-, hf, idle, budget⟩ := place
    · obtain ⟨-, -, idle, budget, fits⟩ := (phaseFits_pollAttempt hp txn).mp hc.phase
      exact ⟨.inr fits, idle, budget⟩
    · exact ⟨.inl ⟨hf, opens_of_statusTxn txn⟩, idle, budget⟩
  obtain ⟨stands, idle, budget⟩ := facts
  obtain ⟨polls, hcs, hheld⟩ := poll.decode
  have lines : s.cs = csAt p ∧ s.held = heldAt p := by
    rw [hc.cs, hc.held]
    obtain hp | ⟨hp, rfl, -⟩ := place
    · rw [hp]
      exact ⟨rfl, rfl⟩
    · rw [hp]
      exact ⟨hcs, hheld⟩
  obtain ⟨cs, held, framed⟩ := hc.lines_of_marker lines.1 lines.2 h
  refine ⟨(phaseFits_pollAttempt (j := j) rfl ?_).mpr ⟨by simpa using hb, ?_, by simpa using idle, by simpa using budget, ?_⟩,
    by simpa [csIn, posOf] using cs, by simpa [heldIn, posOf] using held, ?_, by simpa using framed⟩
  · exact (statusTxn_stored_performed byte e s).trans txn
  · simp [hd, polls]
  · simpa using h.posFits stands
  · simpa [pollFits] using hc.poll

/-- A transition that moves only POLL_INFO.STATE, to one that R267 allows. -/
theorem Consistent.transition {before after : Phase} {ps : PollState} (hc : Consistent s) (hb : s.busy = true)
    (hd : Sys2Proof.decode s.cur = .ok i) (poll : Polls i before after) (place : s.phase = before)
    (hps : pollFits { s with pollState := ps } = true) : Consistent { s with pollState := ps, phase := after } := by
  have cs := hc.cs
  have held := hc.held
  rw [place] at cs held
  cases poll with
  | step => exact ⟨(phaseFits_pollEnd rfl).mpr ⟨hb, hd⟩, cs, held, hps, hc.framed⟩
  | run =>
    obtain ⟨-, -, ok⟩ := (phaseFits_pollTest place).mp hc.phase
    exact ⟨(phaseFits_pollTest rfl).mpr ⟨hb, hd, ok⟩, cs, held, hps, hc.framed⟩

/-- After Evaluate, an attempt has been made (R267). -/
theorem pollFits_evaluated (hc : Consistent s) (evaluate : s.pollState = .evaluate) :
    pollFits { s with pollState := evaluated s } = true := by
  have h : 1 ≤ s.pollAttempts.toNat := by simpa [pollFits, evaluate] using hc.poll
  unfold evaluated
  split_ifs <;> simp [pollFits, h]

theorem toNat_add_one_of_lt {a b : Half} (h : a < b) : (a + 1).toNat = a.toNat + 1 := by
  have hb := b.isLt
  have := BitVec.lt_def.mp h
  rw [BitVec.toNat_add, show (1 : Half).toNat = 1 from rfl]
  omega

/-- The end of an attempt: ATTEMPTS counts it, and Faulted stands only with NACK_IS_FAULT (R251, R267). -/
theorem Consistent.attemptDone {before after : Phase} {j : Instr} {p : Pos} {r : Result} (hc : Consistent s)
    (hd : Sys2Proof.decode s.cur = .ok i) (poll : Polls i before after) (txn : statusTxn s = some j)
    (place : s.phase = .pollAttempt p) (h : Ends j p r) : Consistent (attemptDone r after s) := by
  obtain ⟨hb, -, -, budget, fits⟩ := (phaseFits_pollAttempt place txn).mp hc.phase
  obtain ⟨fits, hcs, hheld⟩ := h.posFits (nf := s.params.nackIsFault) (.inr fits)
  have cs : s.cs = false := by
    rw [hc.cs, place]
    exact hcs
  have held : s.held = false := by
    rw [hc.held, place]
    exact hheld
  have counted : 1 ≤ (s.pollAttempts + 1).toNat := by
    rw [toNat_add_one_of_lt budget]
    omega
  have phase : ∀ u : State, u.busy = s.busy → u.cur = s.cur → u.pollTxn = s.pollTxn → u.i2cDev = s.i2cDev →
      u.phase = after → phaseFits u = true ∧ csIn u.phase = false ∧ heldIn u.phase = false := by
    intro u ub uc ut ud up
    cases poll with
    | step => exact ⟨(phaseFits_pollEnd up).mpr ⟨ub.trans hb, uc ▸ hd⟩, by rw [up]; exact ⟨rfl, rfl⟩⟩
    | run =>
      have ok : txnOk u = true := txnOk_iff.mpr ⟨j, (statusTxn_congr ut ud).trans txn⟩
      exact ⟨(phaseFits_pollTest up).mpr ⟨ub.trans hb, uc ▸ hd, ok⟩, by rw [up]; exact ⟨rfl, rfl⟩⟩
  obtain rfl | ⟨rfl, nf, -⟩ := result_of_posFits_ended fits
  · obtain ⟨hp, hc', hh'⟩ := phase (Machine.attemptDone .ok after s) rfl rfl rfl rfl rfl
    exact ⟨hp, cs.trans hc'.symm, held.trans hh'.symm, by simpa [Machine.attemptDone, pollFits] using counted, hc.framed⟩
  · obtain ⟨hp, hc', hh'⟩ := phase (Machine.attemptDone .busFault after s) rfl rfl rfl rfl rfl
    exact ⟨hp, cs.trans hc'.symm, held.trans hh'.symm, by simpa [Machine.attemptDone, pollFits, nf] using counted, hc.framed⟩

/-- Every step of a command keeps the invariant. -/
theorem Acts.consistent (hc : Consistent s) (hb : s.busy = true) (hd : Sys2Proof.decode s.cur = .ok i) (h : Acts s i t) :
    Consistent t := by
  cases h with
  | waits => exact hc.popReply _
  | marker place moves => exact hc.marker hb hd place moves
  | ends place done =>
    obtain ⟨-, fits⟩ := (phaseFits_txn place hd).mp hc.phase
    obtain ⟨-, cs, held⟩ := done.posFits (.inr fits)
    obtain ⟨cs, held⟩ := hc.inactive (by rw [place]; exact ⟨cs, held⟩)
    exact hc.complete cs held _
  | completes place => exact hc.complete_of_start place _
  | divides place | assembles place | samples place =>
    obtain ⟨phase, cs, held, poll, framed⟩ := hc.complete_of_start place .ok
    exact ⟨phase, cs, held, poll, framed⟩
  | divisorWrite place => exact hc.divisorWrite hb hd place _ _ _ _ _
  | arms place => exact (hc.armPoll place).complete_of_start place _
  | armsRun place ok => exact hc.armsRun hb hd place ok
  | pollCompletes place =>
    obtain ⟨cs, held⟩ := hc.inactive (by
      obtain ⟨-, hp | hp⟩ | ⟨-, hp⟩ := place <;> rw [hp] <;> exact ⟨rfl, rfl⟩)
    exact hc.complete cs held _
  | timesOut poll place => exact hc.transition hb hd poll place rfl
  | evaluates poll place evaluate => exact hc.transition hb hd poll place (pollFits_evaluated hc evaluate)
  | retries poll place => exact hc.transition hb hd poll place rfl
  | attempt poll txn place moves => exact hc.attempt hb hd poll txn place moves
  | attemptEnds poll txn place done => exact hc.attemptDone hd poll txn place done

end Steps

/-! ### The steps of the host and of reset -/

section Agents

variable {s t : State}

theorem Consistent.withAgenda (hc : Consistent s) (rest : List Turn) : Consistent { s with agenda := rest } :=
  ⟨hc.phase, hc.cs, hc.held, hc.poll, hc.framed⟩

/-- A host access is allowed inside and outside every frame. -/
theorem Consistent.recordHost (hc : Consistent s) {e : Event} (h : ∀ l, frameEvent (some l) e = some l) :
    Consistent (record e s) :=
  ⟨hc.phase, hc.cs, hc.held, hc.poll, by
    refine (framing_append s.history e).trans ?_
    rw [hc.framed, h]
    rfl⟩

/-- With BUSY = 0 a write accepts a command or stores a configuration field (R130, R131). -/
theorem Consistent.storeReg (hc : Consistent s) (hb : s.busy = false) (r : HostReg) (v : Word) :
    Consistent (storeReg r v s) := by
  have hp := hc.phase_of_idle hb
  obtain ⟨cs, held⟩ := hc.inactive (by rw [hp]; exact ⟨rfl, rfl⟩)
  have keeps : ∀ u : State, u.phase = .idle → u.busy = false → u.cs = s.cs → u.held = s.held → u.history = s.history →
      pollFits u = true → Consistent u := by
    intro u up ub uc uh uhist upoll
    refine ⟨(phaseFits_idle up).mpr ub, ?_, ?_, upoll, ?_⟩
    · rw [up, uc, cs]
      rfl
    · rw [up, uh, held]
      rfl
    · rw [uhist, uc, uh, hc.framed]
  cases r with
  | cmd => exact ⟨rfl, cs, held, hc.poll, hc.framed⟩
  | _ => exact keeps _ hp hb rfl rfl rfl hc.poll

theorem Consistent.writeReg (hc : Consistent s) (r : HostReg) (v : Word) : Consistent (writeReg r v s) := by
  cases hb : s.busy with
  | true =>
    rw [writeReg_busy hb]
    split
    · exact ⟨hc.phase, hc.cs, hc.held, hc.poll, hc.framed⟩
    · exact hc
  | false =>
    rw [writeReg_idle hb]
    exact hc.storeReg hb r v

theorem Consistent.writeWindow (hc : Consistent s) (off : Nat) (v : Word) : Consistent (writeWindow off v s) := by
  unfold Machine.writeWindow
  split
  · exact hc.writeReg _ v
  · exact hc

theorem Consistent.hostStep {a : HostAccess} (hc : Consistent s) (h : hostStep a s = .next t) : Consistent t := by
  obtain ⟨-, -, -, -, ⟨-, rfl⟩ | ⟨v, -, rfl⟩⟩ := hostStep_cases h
  · exact hc.recordHost fun _ => rfl
  · exact (hc.writeWindow _ v).recordHost fun _ => rfl

theorem Consistent.resetEvent (hc : Consistent s) : Consistent (resetEvent s) :=
  ⟨rfl, rfl, rfl, rfl, by
    refine (framing_append s.history .reset).trans ?_
    rw [hc.framed]
    rfl⟩

theorem Consistent.sequencerStep (hc : Consistent s) (h : sequencerStep s = .next t) : Consistent t := by
  obtain ⟨-, rfl⟩ | ⟨hb, i, hd, h⟩ | ⟨-, -, hp, rfl⟩ := sequencerStep_cases h
  · exact hc
  · exact (acts_of_exec h).consistent hc hb hd
  · exact hc.complete_of_start hp _

/-- Every step of every agent keeps the invariant. -/
theorem Consistent.step (hc : Consistent s) (h : step s = .next t) : Consistent t := by
  obtain ⟨-, ⟨-, h⟩ | ⟨rest, -, h⟩ | ⟨a, rest, -, h⟩ | ⟨rest, -, rfl⟩⟩ := step_cases h
  · exact hc.sequencerStep h
  · exact (hc.withAgenda rest).sequencerStep h
  · exact (hc.withAgenda rest).hostStep h
  · exact (hc.withAgenda rest).resetEvent

end Agents

end Sys2Proof.Machine
end

section
/-! The invariant: the obligations of R52, R93, R181, R200 and R267. -/

namespace Sys2Proof.Machine

/-- Settles O53: a step of the sequencer, of the host or of reset keeps each part of the invariant. -/
theorem everyStepKeepsTheStateConsistent : Obligations.EveryStepKeepsTheStateConsistent :=
  fun _ _ hc h => consistent_iff.mpr ((consistent_iff.mp hc).step h)

/-- Settles O54: after reset no command runs, both lines are inactive and the history is empty. -/
theorem resetIsConsistent : Obligations.ResetIsConsistent :=
  consistent_iff.mpr ⟨rfl, rfl, rfl, rfl, rfl⟩

end Sys2Proof.Machine
end

section
/-! The end of an attempt, field by field (R251, R252). -/

namespace Sys2Proof.Machine

@[simp] theorem attemptDone_cur (r : Result) (after : Phase) (s : State) : (attemptDone r after s).cur = s.cur := by
  cases r <;> rfl
@[simp] theorem attemptDone_busy (r : Result) (after : Phase) (s : State) : (attemptDone r after s).busy = s.busy := by
  cases r <;> rfl
@[simp] theorem attemptDone_done (r : Result) (after : Phase) (s : State) : (attemptDone r after s).done = s.done := by
  cases r <;> rfl
@[simp] theorem attemptDone_result (r : Result) (after : Phase) (s : State) : (attemptDone r after s).result = s.result := by
  cases r <;> rfl
@[simp] theorem attemptDone_asmv (r : Result) (after : Phase) (s : State) : (attemptDone r after s).asmv = s.asmv := by
  cases r <;> rfl
@[simp] theorem attemptDone_ch (r : Result) (after : Phase) (s : State) : (attemptDone r after s).ch = s.ch := by
  cases r <;> rfl
@[simp] theorem attemptDone_ibrd (r : Result) (after : Phase) (s : State) : (attemptDone r after s).ibrd = s.ibrd := by
  cases r <;> rfl
@[simp] theorem attemptDone_fbrd (r : Result) (after : Phase) (s : State) : (attemptDone r after s).fbrd = s.fbrd := by
  cases r <;> rfl
@[simp] theorem attemptDone_cs (r : Result) (after : Phase) (s : State) : (attemptDone r after s).cs = s.cs := by
  cases r <;> rfl
@[simp] theorem attemptDone_held (r : Result) (after : Phase) (s : State) : (attemptDone r after s).held = s.held := by
  cases r <;> rfl
@[simp] theorem attemptDone_rxbuf (r : Result) (after : Phase) (s : State) : (attemptDone r after s).rxbuf = s.rxbuf := by
  cases r <;> rfl
@[simp] theorem attemptDone_history (r : Result) (after : Phase) (s : State) : (attemptDone r after s).history = s.history := by
  cases r <;> rfl
@[simp] theorem attemptDone_phase (r : Result) (after : Phase) (s : State) : (attemptDone r after s).phase = after := by
  cases r <;> rfl
@[simp] theorem attemptDone_pollAttempts (r : Result) (after : Phase) (s : State) :
    (attemptDone r after s).pollAttempts = s.pollAttempts + 1 := by
  cases r <;> rfl

end Sys2Proof.Machine
end

section
/-! What the list of steps says of every command: its codes, its writers, its events, and that none of its steps stops
(R46, R130, R134, R292, R296). -/

namespace Sys2Proof.Machine

section Facts

variable {i : Instr} {s t : State}

/-! ### No step of a consistent state stops (R296) -/

/-- The step answers a next state. -/
def Goes (o : Out) : Prop := ∃ t, o = .next t

theorem goes_settle {p : Pos} (h : Stands s.params.nackIsFault i p) : Goes (settle (stepOf i p s) s) := by
  have does := stepOf_does i p s
  generalize stepOf i p s = g at does
  cases g with
  | reached q u => exact ⟨_, rfl⟩
  | waits u => exact ⟨_, rfl⟩
  | ended r => exact ⟨_, rfl⟩
  | stray => exact absurd h does

theorem goes_attemptStep {p : Pos} {j : Instr} (after : Phase) (txn : statusTxn s = some j)
    (h : Stands s.params.nackIsFault j p) : Goes (attemptStep after p s) := by
  have does := stepOf_does j p s
  rw [← statusStep_eq txn] at does
  unfold attemptStep
  generalize statusStep p s = g at does
  cases g with
  | reached q u => exact ⟨_, rfl⟩
  | waits u => exact ⟨_, rfl⟩
  | ended r => exact ⟨_, rfl⟩
  | stray => exact absurd h does

/-- A transition from a state that is not terminal, where an attempt that is due has a valid status transaction. -/
theorem goes_transition (after : Phase) (live : terminal s.pollState = false)
    (ok : s.pollState = .idle → s.pollAttempts < s.pollMax → txnOk s = true) : Goes (transition after s) := by
  unfold transition
  split
  · next idle =>
    split
    · exact ⟨_, rfl⟩
    · next budget =>
      obtain ⟨j, txn⟩ := txnOk_iff.mp (ok idle (BitVec.not_le.mp budget))
      exact goes_attemptStep after txn (.inl ⟨rfl, opens_of_statusTxn txn⟩)
  · exact ⟨_, rfl⟩
  · exact ⟨_, rfl⟩
  all_goals simp_all [terminal]

/-- From its first statement, every command has a step. -/
theorem goes_exec_start (hp : s.phase = .start) (i : Instr) : Goes (exec i s) := by
  cases i with
  | nop => exact ⟨_, atStart_start hp _⟩
  | baudCalc =>
    simp only [exec, execBaudCalc, atStart_start hp]
    split <;> exact ⟨_, rfl⟩
  | uartInit =>
    simp only [exec, execUartInit, framed_start hp]
    split
    · exact ⟨_, rfl⟩
    · obtain ⟨a, -, e⟩ | ⟨-, e⟩ := uartWriteReg_cases s.params.uartIbrdOff _ (setDivisor _ _) (.uartFbrd _) s <;>
        rw [e] <;> exact ⟨_, rfl⟩
  | uartWrite d8 =>
    simp only [exec, execUartWrite, framed_start hp]
    exact goes_settle (i := .uartWrite d8) (.inl ⟨rfl, rfl⟩)
  | uartRead len =>
    simp only [exec, execUartRead, framed_start hp]
    split
    · next h => exact goes_settle (i := .uartRead len) (.inl ⟨rfl, h⟩)
    · exact ⟨_, rfl⟩
  | i2cWrite reg d8 =>
    simp only [exec, execI2cWrite, framed_start hp]
    split
    · exact ⟨_, rfl⟩
    · exact goes_settle (i := .i2cWrite reg d8) (.inl ⟨rfl, rfl⟩)
  | i2cRead reg len =>
    simp only [exec, execI2cRead, framed_start hp]
    split_ifs with hd h
    · exact ⟨_, rfl⟩
    · exact goes_settle (i := .i2cRead reg len) (.inl ⟨rfl, h⟩)
    · exact ⟨_, rfl⟩
  | spiWrite instr d8 =>
    simp only [exec, execSpiWrite, framed_start hp]
    exact goes_settle (i := .spiWrite instr d8) (.inl ⟨rfl, rfl⟩)
  | spiRead instr len =>
    simp only [exec, execSpiRead, framed_start hp]
    split
    · next h => exact goes_settle (i := .spiRead instr len) (.inl ⟨rfl, h⟩)
    · exact ⟨_, rfl⟩
  | spiCmd instr =>
    simp only [exec, execSpiCmd, framed_start hp]
    exact goes_settle (i := .spiCmd instr) (.inl ⟨rfl, rfl⟩)
  | spiCmdr instr len =>
    simp only [exec, execSpiCmdr, framed_start hp]
    split
    · next h => exact goes_settle (i := .spiCmdr instr len) (.inl ⟨rfl, h⟩)
    · exact ⟨_, rfl⟩
  | asm16 k =>
    simp only [exec, execAsm16, atStart_start hp]
    split <;> exact ⟨_, rfl⟩
  | asmSample => exact ⟨_, atStart_start hp _⟩
  | pollInit =>
    simp only [exec, execPollInit, atStart_start hp]
    split <;> exact ⟨_, rfl⟩
  | pollStep =>
    simp only [exec, execPollStep, hp]
    split_ifs with live ok
    · exact ⟨_, rfl⟩
    · exact ⟨_, rfl⟩
    · refine goes_transition .pollEnd (by simpa using live) fun idle budget => ?_
      by_contra h
      exact ok ⟨idle, budget, by simpa using h⟩
  | pollRun =>
    simp only [exec, execPollRun, hp]
    split <;> exact ⟨_, rfl⟩

/-- A sequencer step of a consistent state does not stop: its phase is a position of the command in CUR. -/
theorem Consistent.goes_sequencerStep (hc : Consistent s) : Goes (Machine.sequencerStep s) := by
  cases hb : s.busy with
  | false => exact ⟨s, sequencerStep_quiescent hb⟩
  | true =>
    cases hd : decode s.cur with
    | error e =>
      have hp : s.phase = .start := by
        have h := hc.phase
        unfold phaseFits at h
        split at h <;> simp_all [runs_iff]
      exact ⟨_, sequencerStep_illegal hb hp hd⟩
    | ok i =>
      rw [sequencerStep_busy hb hd]
      cases hp : s.phase with
      | idle => exact absurd hp (hc.phase_ne_idle hb)
      | start => exact goes_exec_start hp i
      | txn p =>
        rw [exec_txn hp]
        exact goes_settle (.inr ((phaseFits_txn hp hd).mp hc.phase).2)
      | pollTest =>
        obtain ⟨-, hrun, ok⟩ := (phaseFits_pollTest hp).mp hc.phase
        obtain rfl : i = .pollRun := by simpa [hd] using hrun
        simp only [exec, execPollRun, hp]
        split
        · exact ⟨_, rfl⟩
        · next live => exact goes_transition .pollTest (by simpa using live) fun _ _ => ok
      | pollAttempt p =>
        have fits := hc.phase
        cases txn : statusTxn s with
        | none => simp [phaseFits, hp, txn] at fits
        | some j =>
          obtain ⟨-, hrun, -, -, fits⟩ := (phaseFits_pollAttempt hp txn).mp hc.phase
          obtain rfl | rfl : i = .pollRun ∨ i = .pollStep := by simpa [hd] using hrun
          · simp only [exec, execPollRun, hp]
            exact goes_attemptStep _ txn (.inr fits)
          · simp only [exec, execPollStep, hp]
            exact goes_attemptStep _ txn (.inr fits)
      | pollEnd =>
        obtain ⟨-, hstep⟩ := (phaseFits_pollEnd hp).mp hc.phase
        obtain rfl : i = .pollStep := by simpa [hd] using hstep
        simp only [exec, execPollStep, hp]
        exact ⟨_, rfl⟩

/-- A step of a consistent machine stops only for misaligned parameters or a host access without meaning. -/
theorem Consistent.goes_step (hc : Consistent s) (ha : s.params.aligned = true)
    (hm : ∀ a rest, s.agenda = .host a :: rest → Meaningful a s) : Goes (Machine.step s) := by
  match hg : s.agenda with
  | [] =>
    rw [step_of_agenda_nil ha hg]
    exact hc.goes_sequencerStep
  | .sequencer :: rest =>
    rw [step_of_agenda_sequencer ha hg]
    exact (hc.withAgenda rest).goes_sequencerStep
  | .host a :: rest =>
    rw [step_of_agenda_host ha hg]
    exact exists_hostStep_of_meaningful (hm a rest hg)
  | .reset :: rest => exact ⟨_, step_of_agenda_reset ha hg⟩

/-! ### The codes (R292) -/

theorem mem_codes_of_posFits_ended {nf : Bool} {r : Result} (h : posFits nf i (.ended r) = true) :
    r ∈ codes i ∧ (r = .busFault → nf = true) := by
  obtain rfl | ⟨rfl, rfl, ⟨reg, d8, rfl⟩ | ⟨reg, len, rfl⟩⟩ := result_of_posFits_ended h
  · cases i <;> simp_all [codes, posFits]
  · simp [codes]
  · simp [codes]

theorem codeOf_busFault {ps : PollState} (h : codeOf ps = .busFault) : ps = .faulted := by
  cases ps <;> simp_all [codeOf]

/-- A step that ends the command is its `complete`, with a code of the command's row. -/
theorem Acts.completion (hc : Consistent s) (hb : s.busy = true) (hd : decode s.cur = .ok i) (h : Acts s i t)
    (ht : t.busy = false) :
    t.result ∈ codes i ∧ (t.result = .busFault → s.params.nackIsFault = true) ∧ t.done = true ∧ t.phase = .idle := by
  cases h with
  | ends place done =>
    obtain ⟨-, fits⟩ := (phaseFits_txn place hd).mp hc.phase
    obtain ⟨code, fault⟩ := mem_codes_of_posFits_ended (done.posFits (.inr fits)).1
    exact ⟨code, fault, rfl, rfl⟩
  | completes place code noFault => exact ⟨code, fun h => absurd h noFault, rfl, rfl⟩
  | divides | assembles | samples | arms => exact ⟨by simp [codes], by simp, rfl, rfl⟩
  | pollCompletes place =>
    refine ⟨?_, fun h => ?_, rfl, rfl⟩
    · obtain ⟨rfl, -⟩ | ⟨rfl, -⟩ := place <;> cases s.pollState <;> simp [codes, codeOf]
    · have := hc.poll
      simp only [pollFits, codeOf_busFault h, Bool.and_eq_true] at this
      exact this.2
  | waits | marker | divisorWrite | armsRun | timesOut | evaluates | retries | attempt | attemptEnds => simp [hb] at ht

/-! ### The writers (R37, R43, R44, R49 to R51) -/

theorem Acts.divisor_writer (h : Acts s i t) (hw : t.ibrd ≠ s.ibrd ∨ t.fbrd ≠ s.fbrd) : i = .baudCalc ∨ i = .uartInit := by
  cases h with
  | divides => exact .inl rfl
  | divisorWrite => exact .inr rfl
  | _ => simp at hw

theorem Acts.asmv_writer (h : Acts s i t) (hw : t.asmv ≠ s.asmv) : ∃ k, i = .asm16 k := by
  cases h with
  | assembles => exact ⟨_, rfl⟩
  | _ => simp at hw

theorem Acts.ch_writer (h : Acts s i t) (hw : t.ch ≠ s.ch) : i = .asmSample := by
  cases h with
  | samples => rfl
  | _ => simp at hw

theorem Polls.eq {before after : Phase} (h : Polls i before after) : i = .pollStep ∨ i = .pollRun := by
  cases h <;> simp

theorem Acts.poll_writer (h : Acts s i t)
    (hw : t.pollState ≠ s.pollState ∨ t.pollAttempts ≠ s.pollAttempts ∨ t.pollLast ≠ s.pollLast) :
    i = .pollInit ∨ i = .pollStep ∨ i = .pollRun := by
  cases h with
  | arms => exact .inl rfl
  | armsRun => exact .inr (.inr rfl)
  | timesOut poll | evaluates poll | retries poll | attemptEnds poll => exact .inr poll.eq
  | _ => simp at hw

/-- Only a primitive of SPI moves CS. -/
theorem eventBus_of_csAfter {e : Event} {c : Bool} (h : csAfter e c ≠ c) : eventBus e = .spi := by
  cases e <;> simp_all [csAfter, eventBus]

/-- Only a primitive of I2C moves HELD. -/
theorem eventBus_of_heldAfter {e : Event} {c : Bool} (h : heldAfter e c ≠ c) : eventBus e = .i2c := by
  cases e <;> simp_all [heldAfter, eventBus]

theorem Marker.spi_command {nf : Bool} {p q : Pos} {e : Event} {byte : Option (Nat × Byte)} (h : Marker nf i p e byte q)
    (hb : Machine.eventBus e = .spi) :
    (∃ a b, i = .spiWrite a b) ∨ (∃ a n, i = .spiRead a n) ∨ (∃ a, i = .spiCmd a) ∨ ∃ a n, i = .spiCmdr a n := by
  cases h <;> simp [Machine.eventBus] at hb ⊢

theorem Marker.i2c_command {nf : Bool} {p q : Pos} {e : Event} {byte : Option (Nat × Byte)} (h : Marker nf i p e byte q)
    (hb : Machine.eventBus e = .i2c) : (∃ a b, i = .i2cWrite a b) ∨ ∃ a n, i = .i2cRead a n := by
  cases h <;> simp [Machine.eventBus] at hb ⊢

theorem Acts.cs_writer (h : Acts s i t) (hw : t.cs ≠ s.cs) :
    (∃ a b, i = .spiWrite a b) ∨ (∃ a n, i = .spiRead a n) ∨ (∃ a, i = .spiCmd a) ∨ (∃ a n, i = .spiCmdr a n) ∨
      ((i = .pollStep ∨ i = .pollRun) ∧
        ((∃ a, decode s.pollTxn = .ok (.spiRead a 1)) ∨ ∃ a, decode s.pollTxn = .ok (.spiCmdr a 1))) := by
  cases h with
  | marker place moves =>
    exact (moves.spi_command (eventBus_of_csAfter (by simpa using hw))).imp_right (.imp_right (.imp_right .inl))
  | attempt poll txn place moves =>
    have bus := moves.spi_command (eventBus_of_csAfter (by simpa using hw))
    obtain ⟨hd, ⟨reg, rfl, -⟩ | ⟨instr, rfl⟩ | ⟨instr, rfl⟩ | rfl⟩ := statusTxn_some txn
    · simp at bus
    · exact .inr (.inr (.inr (.inr ⟨poll.eq, .inl ⟨instr, hd⟩⟩)))
    · exact .inr (.inr (.inr (.inr ⟨poll.eq, .inr ⟨instr, hd⟩⟩)))
    · simp at bus
  | _ => simp [csAfter] at hw

theorem Acts.held_writer (h : Acts s i t) (hw : t.held ≠ s.held) :
    (∃ a b, i = .i2cWrite a b) ∨ (∃ a n, i = .i2cRead a n) ∨
      ((i = .pollStep ∨ i = .pollRun) ∧ ∃ a, decode s.pollTxn = .ok (.i2cRead a 1)) := by
  cases h with
  | marker place moves =>
    exact (moves.i2c_command (eventBus_of_heldAfter (by simpa using hw))).imp_right .inl
  | attempt poll txn place moves =>
    have bus := moves.i2c_command (eventBus_of_heldAfter (by simpa using hw))
    obtain ⟨hd, ⟨reg, rfl, -⟩ | ⟨instr, rfl⟩ | ⟨instr, rfl⟩ | rfl⟩ := statusTxn_some txn
    · exact .inr (.inr ⟨poll.eq, reg, hd⟩)
    all_goals simp at bus
  | _ => simp [heldAfter] at hw

/-! ### The receive buffer (R46) -/

/-- A stored byte changes its own place alone. -/
theorem byte_of_rxByte_stored {byte : Option (Nat × Byte)} {u : State} {j : Nat}
    (h : rxByte (stored byte u) j ≠ rxByte u j) : ∃ b, byte = some (j, b) := by
  obtain _ | ⟨k, b⟩ := byte
  · exact absurd rfl h
  · by_cases hj : j < 16
    · simp only [stored, rxByte_storeRx k j b u hj, ne_eq, ite_eq_right_iff, Classical.not_imp] at h
      exact ⟨b, by rw [h.1]⟩
    · simp [rxByte_out _ j (not_lt.mp hj)] at h

/-- The commands that receive bytes are the reads. -/
theorem Marker.read_command {nf : Bool} {p q : Pos} {e : Event} {j : Nat} {b : Byte} (h : Marker nf i p e (some (j, b)) q)
    (hj : j < readLen i) :
    (∃ len, i = .uartRead len ∧ j < len) ∨ (∃ reg len, i = .i2cRead reg len ∧ j < len) ∨
      (∃ instr len, i = .spiRead instr len ∧ j < len) ∨ ∃ instr len, i = .spiCmdr instr len ∧ j < len := by
  cases h <;> simp_all [readLen]

theorem rxByte_congr {u v : State} (h : u.rxbuf = v.rxbuf) (j : Nat) : rxByte u j = rxByte v j := by
  simp [rxByte, h]

theorem rxByte_goto (ph : Phase) (u : State) (j : Nat) : rxByte (goto ph u) j = rxByte u j := rfl

theorem rxByte_performed (e : Event) (u : State) (j : Nat) : rxByte (performed e u) j = rxByte u j :=
  rxByte_congr (performed_rxbuf e u) j

theorem Acts.rxbuf_writer {j : Nat} (hc : Consistent s) (hd : decode s.cur = .ok i) (h : Acts s i t)
    (hw : rxByte t j ≠ rxByte s j) :
    (∃ len, i = .uartRead len ∧ j < len) ∨ (∃ reg len, i = .i2cRead reg len ∧ j < len) ∨
      (∃ instr len, i = .spiRead instr len ∧ j < len) ∨ (∃ instr len, i = .spiCmdr instr len ∧ j < len) ∨
      ((i = .pollStep ∨ i = .pollRun) ∧ j = 0) := by
  cases h with
  | @marker _ p e byte q place moves =>
    rw [rxByte_goto, ← rxByte_performed e s j] at hw
    obtain ⟨b, rfl⟩ := byte_of_rxByte_stored hw
    have stands : Stands s.params.nackIsFault i p := by
      obtain hp | ⟨-, hf, ho⟩ := place
      · exact .inr ((phaseFits_txn hp hd).mp hc.phase).2
      · exact .inl ⟨hf, ho⟩
    exact (moves.read_command (moves.byte_lt stands)).imp_right (.imp_right (.imp_right .inl))
  | @attempt _ before after k p e byte q poll txn place moves =>
    rw [rxByte_goto, ← rxByte_performed e s j] at hw
    obtain ⟨b, rfl⟩ := byte_of_rxByte_stored hw
    have stands : Stands s.params.nackIsFault k p := by
      obtain hp | ⟨-, hf, -⟩ := place
      · obtain ⟨-, -, -, -, fits⟩ := (phaseFits_pollAttempt hp txn).mp hc.phase
        exact .inr fits
      · exact .inl ⟨hf, opens_of_statusTxn txn⟩
    have one : readLen k = 1 := by
      obtain ⟨-, ⟨reg, rfl, -⟩ | ⟨instr, rfl⟩ | ⟨instr, rfl⟩ | rfl⟩ := statusTxn_some txn <;> rfl
    have := moves.byte_lt stands
    exact .inr (.inr (.inr (.inr ⟨poll.eq, by omega⟩)))
  | _ => exact absurd (rxByte_congr (by simp) j) hw

/-! ### The history and the completion step (R91, R130, R134) -/

theorem Acts.events (h : Acts s i t) (hb : s.busy = true) :
    (t.history = s.history ∨ ∃ e, busEvent e = true ∧ t.history = s.history ++ [e]) ∧
      (t.busy = true → t.result = s.result ∧ t.done = s.done ∧ t.phase ≠ .idle) ∧
      (t.busy = false → t.history = s.history ∧ t.done = true ∧ t.phase = .idle) := by
  cases h with
  | waits running => exact ⟨by simp, by simp [running], by simp [hb]⟩
  | marker place moves => exact ⟨.inr ⟨_, moves.busEvent, by simp⟩, by simp, by simp [hb]⟩
  | attempt poll txn place moves => exact ⟨.inr ⟨_, moves.busEvent, by simp⟩, by simp, by simp [hb]⟩
  | @divisorWrite _ _ _ a v => exact ⟨.inr ⟨.memWrite a v, rfl, by simp⟩, by simp, by simp [hb]⟩
  | timesOut poll | evaluates poll | retries poll | attemptEnds poll => cases poll <;> simp [hb]
  | _ => simp [hb]

end Facts

end Sys2Proof.Machine
end

section
/-! The obligations about every command and the whole machine. -/

namespace Sys2Proof.Machine

/-- Settles O55: a sequencer step of a consistent state goes on; the refusals are those of R71 and R85. -/
theorem noOutcomeOfTheCoreIsATrap : Obligations.NoOutcomeOfTheCoreIsATrap := by
  have meaningless (s : State) (a : HostAccess) (rest : List Turn) (ha : s.params.aligned = true)
      (hg : s.agenda = .host a :: rest) (h : ¬ Meaningful a s) :
      step s = .refused .hostWidth ∨ step s = .refused .hostWindow ∨ step s = .refused .hostAlignment := by
    rw [step_of_agenda_host ha hg]
    exact hostStep_refused h
  refine ⟨fun s hc => ?_, fun s => step_misaligned, meaningless⟩
  have hc := consistent_iff.mp hc
  cases ha : s.params.aligned with
  | false => simp [step_misaligned ha]
  | true =>
    by_cases hm : ∀ a rest, s.agenda = .host a :: rest → Meaningful a s
    · obtain ⟨t, ht⟩ := hc.goes_step ha hm
      simp [ht]
    · push Not at hm
      obtain ⟨a, rest, hg, h⟩ := hm
      have refusal := meaningless s a rest ha hg h
      refine ⟨fun f hf => ?_, fun r hr => .inr ⟨?_, a, rest, hg, h⟩⟩
      · rcases refusal with e | e | e <;> simp [e] at hf
      · rcases refusal with e | e | e <;> rw [e, Host.Outcome.refused.injEq] at hr <;> simp [← hr]

/-- Settles O56: the completions in the list of steps. -/
theorem commandsEndWithTheirCodesOnly : Obligations.CommandsEndWithTheirCodesOnly :=
  fun _ _ _ hc hb hd h => (acts_of_exec h).completion (consistent_iff.mp hc) hb hd

/-- Settles O57: the configuration is part of what the host owns. -/
theorem commandsLeaveTheConfiguration : Obligations.CommandsLeaveTheConfiguration := by
  intro i s t h
  have same := exec_keeps i s t h
  simp only [hostOwned, HostOwned.mk.injEq] at same
  tauto

/-- Settles O58, register by register. -/
theorem eachResultRegisterHasItsWriters : Obligations.EachResultRegisterHasItsWriters := by
  intro i s t h
  have acts := acts_of_exec h
  exact ⟨acts.divisor_writer, acts.asmv_writer, acts.ch_writer, acts.poll_writer, acts.cs_writer, acts.held_writer⟩

/-- Settles O59: a step stores at most the byte of its primitive, below the length of its read. -/
theorem readsWriteOnlyTheirPartOfRxbuf : Obligations.ReadsWriteOnlyTheirPartOfRxbuf :=
  fun _ _ _ _ hc _ hd h => (acts_of_exec h).rxbuf_writer (consistent_iff.mp hc) hd

/-- Settles O60: a step records at most its one primitive, and a completion records none. -/
theorem oneEventPerStepAndCompletionApart : Obligations.OneEventPerStepAndCompletionApart :=
  fun _ _ _ h hb => (acts_of_exec h).events hb

end Sys2Proof.Machine
end

section
/-! What a step does to the poller (R252, R266): said once, then read by each clause of R266. -/

namespace Sys2Proof.Machine

/-- All that a step can do to STATE, ATTEMPTS and LAST. -/
inductive PollMoves (s t : State) : Prop
  | keeps (state : t.pollState = s.pollState) (attempts : t.pollAttempts = s.pollAttempts) (last : t.pollLast = s.pollLast)
  | arms (state : t.pollState = .idle) (attempts : t.pollAttempts = 0) (last : t.pollLast = 0)
  | timesOut (from_idle : s.pollState = .idle) (spent : s.pollMax.toNat ≤ s.pollAttempts.toNat) (state : t.pollState = .timeout)
      (attempts : t.pollAttempts = s.pollAttempts) (last : t.pollLast = s.pollLast)
  | evaluates (from_evaluate : s.pollState = .evaluate) (state : t.pollState = evaluated s)
      (attempts : t.pollAttempts = s.pollAttempts) (last : t.pollLast = s.pollLast)
  | retries (from_retry : s.pollState = .retry) (state : t.pollState = .idle)
      (attempts : t.pollAttempts = s.pollAttempts) (last : t.pollLast = s.pollLast)
  | succeeds (from_idle : s.pollState = .idle) (place : ∃ p, s.phase = .pollAttempt p) (state : t.pollState = .evaluate)
      (attempts : t.pollAttempts.toNat = s.pollAttempts.toNat + 1) (last : t.pollLast = rxByte s 0)
  | fails (from_idle : s.pollState = .idle) (place : s.phase = .pollAttempt (.ended .busFault))
      (fault : s.params.nackIsFault = true) (txn : ∃ reg, decode s.pollTxn = .ok (.i2cRead reg 1))
      (state : t.pollState = .faulted) (attempts : t.pollAttempts.toNat = s.pollAttempts.toNat + 1)
      (last : t.pollLast = s.pollLast)

/-- The three answers of Evaluate, each with its test (R252). -/
theorem evaluated_cases (s : State) :
    (evaluated s = .ready ∧ ready s s.pollLast = true) ∨
      (evaluated s = .timeout ∧ ready s s.pollLast = false ∧ s.pollMax.toNat ≤ s.pollAttempts.toNat) ∨
      (evaluated s = .retry ∧ ready s s.pollLast = false ∧ s.pollAttempts.toNat < s.pollMax.toNat) := by
  unfold evaluated
  split_ifs with hr hm
  · exact .inl ⟨rfl, hr⟩
  · exact .inr (.inl ⟨rfl, by simpa using hr, BitVec.le_def.mp hm⟩)
  · exact .inr (.inr ⟨rfl, by simpa using hr, BitVec.lt_def.mp (BitVec.not_le.mp hm)⟩)

section Moves

variable {s t : State} {i : Instr}

theorem Acts.pollMoves (hc : Consistent s) (h : Acts s i t) : PollMoves s t := by
  cases h with
  | arms | armsRun => exact .arms rfl rfl rfl
  | timesOut poll place idle spent => exact .timesOut idle (BitVec.le_def.mp spent) rfl rfl rfl
  | evaluates poll place evaluate => exact .evaluates evaluate rfl rfl rfl
  | retries poll place retry => exact .retries retry rfl rfl rfl
  | attemptEnds poll txn place done =>
    obtain ⟨-, -, idle, budget, fits⟩ := (phaseFits_pollAttempt place txn).mp hc.phase
    have counted := toNat_add_one_of_lt budget
    obtain ⟨fits, -⟩ := done.posFits (nf := s.params.nackIsFault) (.inr fits)
    obtain rfl | ⟨rfl, fault, command⟩ := result_of_posFits_ended fits
    · exact .succeeds idle ⟨_, place⟩ rfl counted rfl
    · have txn : ∃ reg, decode s.pollTxn = .ok (.i2cRead reg 1) := by
        obtain ⟨hd, ⟨reg, rfl, -⟩ | ⟨instr, rfl⟩ | ⟨instr, rfl⟩ | rfl⟩ := statusTxn_some txn
        · exact ⟨reg, hd⟩
        all_goals simp at command
      rw [done.of_ne_ok (by simp)] at place
      exact .fails idle place fault txn rfl counted rfl
  | _ => exact .keeps (by simp) (by simp) (by simp)

/-- STATE moves as R266 says. -/
theorem PollMoves.state_moves (h : PollMoves s t) (hne : t.pollState ≠ s.pollState) :
    (t.pollState = .ready → s.pollState = .evaluate ∧ ready s s.pollLast = true) ∧
      (t.pollState = .timeout → s.pollMax.toNat ≤ s.pollAttempts.toNat ∧
        (s.pollState = .idle ∨ (s.pollState = .evaluate ∧ ready s s.pollLast = false))) ∧
      (t.pollState = .evaluate → (∃ p, s.phase = .pollAttempt p) ∧ t.pollLast = rxByte s 0 ∧
        t.pollAttempts.toNat = s.pollAttempts.toNat + 1) ∧
      (t.pollState = .faulted → s.phase = .pollAttempt (.ended .busFault) ∧ s.params.nackIsFault = true ∧
        t.pollAttempts.toNat = s.pollAttempts.toNat + 1 ∧ ∃ reg, decode s.pollTxn = .ok (.i2cRead reg 1)) ∧
      (t.pollState = .retry → s.pollState = .evaluate ∧ ready s s.pollLast = false ∧
        s.pollAttempts.toNat < s.pollMax.toNat) ∧
      (t.pollState = .idle → s.pollState = .retry ∨ (t.pollAttempts = 0 ∧ t.pollLast = 0)) := by
  cases h with
  | keeps state => exact absurd state hne
  | arms state attempts last => simp [state, attempts, last]
  | timesOut from_idle spent state => simp [state, from_idle, spent]
  | evaluates from_evaluate state =>
    obtain ⟨e, h⟩ | ⟨e, h⟩ | ⟨e, h⟩ := evaluated_cases s <;> simp [state, e, from_evaluate, h]
  | retries from_retry state => simp [state, from_retry]
  | succeeds from_idle place state attempts last => simp [state, place, attempts, last]
  | fails from_idle place fault txn state attempts => simp [state, place, fault, txn, attempts]

/-- LAST changes at the end of an attempt that is OK, and where the poller is armed. -/
theorem PollMoves.last_moves (h : PollMoves s t) (hne : t.pollLast ≠ s.pollLast) :
    (s.pollState = .idle ∧ t.pollState = .evaluate) ∨ (t.pollState = .idle ∧ t.pollAttempts = 0 ∧ t.pollLast = 0) := by
  cases h with
  | arms state attempts last => exact .inr ⟨state, attempts, last⟩
  | succeeds from_idle place state => exact .inl ⟨from_idle, state⟩
  | keeps _ _ last | timesOut _ _ _ _ last | evaluates _ _ _ last | retries _ _ _ last | fails _ _ _ _ _ _ last =>
    exact absurd last hne

/-- ATTEMPTS changes at the end of an attempt, and where the poller is armed. -/
theorem PollMoves.attempts_moves (h : PollMoves s t) (hne : t.pollAttempts ≠ s.pollAttempts) :
    (s.pollState = .idle ∧ (t.pollState = .evaluate ∨ t.pollState = .faulted)) ∨
      (t.pollState = .idle ∧ t.pollAttempts = 0 ∧ t.pollLast = 0) := by
  cases h with
  | arms state attempts last => exact .inr ⟨state, attempts, last⟩
  | succeeds from_idle place state => exact .inl ⟨from_idle, .inl state⟩
  | fails from_idle place fault txn state => exact .inl ⟨from_idle, .inr state⟩
  | keeps _ attempts | timesOut _ _ _ attempts | evaluates _ _ attempts | retries _ _ attempts => exact absurd attempts hne

theorem Polls.after_ne {before after : Phase} (poll : Polls i before after) (p : Pos) :
    after ≠ .pollAttempt p ∧ before ≠ .pollAttempt p := by
  cases poll <;> simp

/-- In an attempt, BUS_FAULT is reached from a pending NACK of I2C.READ, the only I2C status transaction (R188, R251). -/
theorem mem_readNacks_of_statusTxn {nf : Bool} {j : Instr} {p : Pos} {e : Event} {byte : Option (Nat × Byte)}
    (txn : statusTxn s = some j) (moves : Marker nf j p e byte (.ended .busFault)) : p ∈ readNacks := by
  obtain ⟨-, ⟨reg, rfl, -⟩ | ⟨instr, rfl⟩ | ⟨instr, rfl⟩ | rfl⟩ := statusTxn_some txn
  · exact moves.mem_readNacks
  all_goals simpa using moves.i2c_of_busFault

/-- The end with BUS_FAULT is reached from the check of a NACK (R182). -/
theorem Acts.busFault_from_nack (h : Acts s i t) (ht : t.phase = .pollAttempt (.ended .busFault)) :
    s.params.nackIsFault = true ∧ s.phase ∈
      [.pollAttempt (.i2cRegister .nack), .pollAttempt (.i2cRestart .nack), .pollAttempt (.i2cReadFirst .nack)] := by
  cases h with
  | waits running notEnded => exact absurd (by simpa using ht) (notEnded .busFault)
  | attempt poll txn place moves =>
    simp only [goto_phase, Phase.pollAttempt.injEq] at ht
    subst ht
    have nack := mem_readNacks_of_statusTxn txn moves
    obtain hp | ⟨-, rfl, -⟩ := place
    · exact ⟨moves.nacked_of_busFault.1, by simpa [hp, readNacks] using nack⟩
    · simp [readNacks] at nack
  | timesOut poll | evaluates poll | retries poll | attemptEnds poll => exact absurd (by simpa using ht) (poll.after_ne _).1
  | _ => simp at ht

/-- A NACK that waits to be checked is the answer recorded in the step that reached it. -/
theorem Acts.nack_recorded (h : Acts s i t) (ht : t.phase ∈
      [.pollAttempt (.i2cRegister .nack), .pollAttempt (.i2cRestart .nack), .pollAttempt (.i2cReadFirst .nack)]) :
    t.phase = s.phase ∨ ∃ b, t.history = s.history ++ [.i2cWrite b .nack] := by
  cases h with
  | waits => exact .inl (popReply_phase _ s)
  | attempt poll txn place moves =>
    obtain ⟨b, rfl⟩ := moves.recorded_of_nacked (.inr (by simpa [readNacks] using ht))
    exact .inr ⟨b, by simp⟩
  | timesOut poll | evaluates poll | retries poll | attemptEnds poll => cases poll <;> simp at ht
  | _ => simp at ht

end Moves

end Sys2Proof.Machine
end

section
/-! The back edges of one POLL.RUN (R266): each takes an attempt of the budget. -/

namespace Sys2Proof.Machine

section Loop

variable {s t : State}

/-- POLL.RUN is inside its loop, and only the sequencer steps. -/
structure InLoop (s : State) : Prop where
  aligned : s.params.aligned = true
  silent : s.agenda = []
  busy : s.busy = true
  command : decode s.cur = .ok .pollRun
  place : s.phase = .pollTest ∨ ∃ p, s.phase = .pollAttempt p ∧ s.pollState = .idle ∧ s.pollAttempts < s.pollMax
  budget : s.pollState = .retry → s.pollAttempts < s.pollMax

/-- How many back edges are left: the attempts of the budget that are not counted yet, but for the one due in Idle. -/
def edgesLeft (s : State) : Nat :=
  s.pollMax.toNat - s.pollAttempts.toNat - (if s.pollState = .idle then 1 else 0)

theorem retryEdges_quiescent (ha : s.params.aligned = true) (hg : s.agenda = []) (hb : s.busy = false) (n : Nat) :
    retryEdges n s = 0 := by
  have stay : step s = .next s := (step_of_agenda_nil ha hg).trans (sequencerStep_quiescent hb)
  induction n with
  | zero => rfl
  | succ n ih =>
    rw [retryEdges_succ stay, ih]
    cases h : s.pollState <;> simp

theorem hostOwned_of_exec {i : Instr} (h : exec i s = .next t) :
    t.params = s.params ∧ t.agenda = s.agenda ∧ t.cur = s.cur ∧ t.pollMax = s.pollMax := by
  have same := exec_keeps i s t h
  simp only [hostOwned, HostOwned.mk.injEq] at same
  tauto

/-- One step of the loop stays in it, and uses up a back edge where it takes one; or it ends the command. -/
theorem InLoop.step (hs : InLoop s) (h : exec .pollRun s = .next t) :
    t.busy = false ∧ t.pollState = s.pollState ∨
      InLoop t ∧ (if s.phase = .pollTest ∧ s.pollState = .retry ∧ t.pollState = .idle then 1 else 0) + edgesLeft t ≤ edgesLeft s := by
  obtain ⟨hparams, hagenda, hcur, hmax⟩ := hostOwned_of_exec h
  have stays (busy : t.busy = true) place budget : InLoop t :=
    ⟨hparams ▸ hs.aligned, hagenda.trans hs.silent, busy, hcur ▸ hs.command, place, budget⟩
  have place := hs.place
  cases acts_of_exec h with
  | waits =>
    refine .inr ⟨stays (by simpa using hs.busy) (by simpa using place) (by simpa using hs.budget), ?_⟩
    cases h : s.pollState <;> simp [edgesLeft, h]
  | pollCompletes => exact .inl ⟨rfl, rfl⟩
  | timesOut poll place' idle spent =>
    cases poll
    refine .inr ⟨stays hs.busy (.inl rfl) (by simp), ?_⟩
    simp [edgesLeft, idle, BitVec.le_def.mp spent]
  | evaluates poll place' evaluate =>
    cases poll
    refine .inr ⟨stays hs.busy (.inl rfl) fun h => ?_, ?_⟩
    · obtain ⟨e, -⟩ | ⟨e, -⟩ | ⟨e, -, budget⟩ := evaluated_cases s
      · simp [e] at h
      · simp [e] at h
      · exact BitVec.lt_def.mpr budget
    · obtain ⟨e, -⟩ | ⟨e, -⟩ | ⟨e, -⟩ := evaluated_cases s <;> simp [edgesLeft, evaluate, e]
  | retries poll place' retry =>
    cases poll
    have budget := BitVec.lt_def.mp (hs.budget retry)
    refine .inr ⟨stays hs.busy (.inl rfl) (by simp), ?_⟩
    simp [edgesLeft, retry, place']
    omega
  | attempt poll txn place' moves =>
    cases poll
    have due : s.pollState = .idle ∧ s.pollAttempts < s.pollMax := by
      obtain hp | ⟨-, -, due⟩ := place'
      · simpa [hp] using place
      · exact due
    refine .inr ⟨stays (by simpa using hs.busy) (.inr ⟨_, rfl, by simpa using due⟩) (by simp [due.1]), ?_⟩
    simp [edgesLeft, due.1]
  | @attemptEnds _ _ _ _ _ r poll txn place' done =>
    cases poll
    have due : s.pollState = .idle ∧ s.pollAttempts < s.pollMax := by simpa [place'] using place
    have counted := toNat_add_one_of_lt due.2
    refine .inr ⟨stays (by simpa using hs.busy) (.inl (by simp)) ?_, ?_⟩
    · cases r <;> simp [attemptDone]
    · have left : edgesLeft (attemptDone r .pollTest s) = edgesLeft s := by
        cases r <;> simp [edgesLeft, attemptDone, due.1] <;> omega
      simp [place', left]
  | completes place' | armsRun place' => simp [place'] at place
  | marker place' => obtain hp | ⟨hp, -⟩ := place' <;> simp [hp] at place
  | ends place' => simp [place'] at place

theorem retryEdges_le (hs : InLoop s) (n : Nat) : retryEdges n s ≤ edgesLeft s := by
  induction n generalizing s with
  | zero => exact Nat.zero_le _
  | succ n ih =>
    have hstep := step_exec hs.aligned hs.silent hs.busy hs.command
    cases h : exec .pollRun s with
    | fault f => simp [retryEdges, hstep, h]
    | refused r => simp [retryEdges, hstep, h]
    | next t =>
      obtain ⟨hparams, hagenda, -, -⟩ := hostOwned_of_exec h
      rw [retryEdges_succ (hstep.trans h)]
      obtain ⟨busy, state⟩ | ⟨ht, left⟩ := hs.step h
      · rw [retryEdges_quiescent (hparams ▸ hs.aligned) (hagenda.trans hs.silent) busy, state]
        cases h : s.pollState <;> simp
      · exact (Nat.add_le_add_left (ih ht) _).trans left

end Loop

end Sys2Proof.Machine
end

section
/-! The obligation of R266. -/

namespace Sys2Proof.Machine

/-- Settles O52: each clause reads what one step does to the poller; the back edges are bounded along the run. -/
theorem pollOutcomesMeanWhatR266Says : Obligations.PollOutcomesMeanWhatR266Says := by
  refine ⟨fun i s t hc hd hb h => ?_, fun s n hs => ?_⟩
  · have hc := consistent_iff.mp hc
    have acts := acts_of_exec h
    have moves := acts.pollMoves hc
    exact ⟨moves.state_moves, moves.last_moves, moves.attempts_moves, acts.busFault_from_nack, acts.nack_recorded⟩
  · obtain ⟨ha, hg, hb, hp, hd⟩ := begins_iff.mp hs
    have hstep := step_exec ha hg hb hd
    cases n with
    | zero => exact Nat.zero_le _
    | succ n =>
      simp only [exec, execPollRun, hp] at hstep
      split at hstep
      · rw [retryEdges_succ hstep, if_neg (by simp [hp]), Nat.zero_add]
        exact retryEdges_le (s := goto .pollTest (armPoll s)) ⟨ha, hg, hb, hd, .inl rfl, fun h => by simp at h⟩ n
      · rw [retryEdges_succ hstep, if_neg (by simp [hp]), retryEdges_quiescent (s := complete .invalidConfig s) ha hg rfl]
        exact Nat.zero_le _

end Sys2Proof.Machine
end

section
/-! One step at a position whose primitive the transport completes: the primitive with its answer, and the state after it
(R80). -/

namespace Sys2Proof.Machine

theorem goto_record_popReply (b : Bus) (e : Event) (p : Pos) (s : State) :
    goto (.txn p) (record e (popReply b s)) = afterEvent b e p s := by
  simp [goto, record, afterEvent]

section Answered

variable {s : State} {x : Answer}

theorem settle_i2cStart (h : nextReply .i2c s = .answer x) (q : Pos) :
    settle (i2cStart q s) s = .next { afterEvent .i2c .i2cStart q s with held := true } := by
  rw [i2cStart, onBus_answer h, settle, ← goto_record_popReply]
  rfl

theorem settle_i2cRstart (h : nextReply .i2c s = .answer x) (q : Pos) :
    settle (i2cRstart q s) s = .next (afterEvent .i2c .i2cRstart q s) := by
  rw [i2cRstart, onBus_answer h, settle, goto_record_popReply]

theorem settle_i2cWrite (h : nextReply .i2c s = .answer x) (b : Byte) (q : Ack → Pos) :
    settle (i2cWrite b q s) s = .next (afterEvent .i2c (.i2cWrite b x.ack) (q x.ack) s) := by
  rw [i2cWrite, onBus_answer h, settle, goto_record_popReply]

theorem settle_i2cRead (h : nextReply .i2c s = .answer x) (j : Nat) (last : Bool) (q : Pos) :
    settle (i2cRead j last q s) s = .next { afterEvent .i2c (.i2cRead last (x.data.extractLsb' 0 8)) q s with
      rxbuf := s.rxbuf.setIfInBounds j (x.data.extractLsb' 0 8) } := by
  rw [i2cRead, onBus_answer h, settle, ← goto_record_popReply, ← popReply_rxbuf .i2c s]
  rfl

theorem settle_i2cStop (h : nextReply .i2c s = .answer x) (q : Pos) :
    settle (i2cStop q s) s = .next { afterEvent .i2c .i2cStop q s with held := false } := by
  rw [i2cStop, onBus_answer h, settle, ← goto_record_popReply]
  rfl

theorem settle_csAssert (h : nextReply .spi s = .answer x) (q : Pos) :
    settle (csAssert q s) s = .next { afterEvent .spi .csAssert q s with cs := true } := by
  rw [csAssert, onBus_answer h, settle, ← goto_record_popReply]
  rfl

theorem settle_csDeassert (h : nextReply .spi s = .answer x) (q : Pos) :
    settle (csDeassert q s) s = .next { afterEvent .spi .csDeassert q s with cs := false } := by
  rw [csDeassert, onBus_answer h, settle, ← goto_record_popReply]
  rfl

theorem settle_spiSend (h : nextReply .spi s = .answer x) (b : Byte) (q : Pos) :
    settle (spiSend b q s) s = .next (afterEvent .spi (.spiXfer b (dataByte x.data)) q s) := by
  rw [spiSend, onBus_answer h, settle, goto_record_popReply]

theorem settle_spiReceive (h : nextReply .spi s = .answer x) (j : Nat) (q : Pos) :
    settle (spiReceive j q s) s = .next { afterEvent .spi (.spiXfer 0x00 (dataByte x.data)) q s with
      rxbuf := s.rxbuf.setIfInBounds j (x.data.extractLsb' 0 8) } := by
  rw [spiReceive, onBus_answer h, settle, ← goto_record_popReply, ← popReply_rxbuf .spi s]
  rfl

theorem settle_uartReadFlags (h : nextReply .uart s = .answer x) (q : Word → Pos) :
    settle (uartReadFlags q s) s =
      .next (afterEvent .uart (.memRead (uartAddr s.params.uartFrOff s) x.data) (q x.data) s) := by
  rw [uartReadFlags, onBus_answer h, settle, goto_record_popReply]

theorem settle_uartReceive (h : nextReply .uart s = .answer x) (j : Nat) (q : Pos) :
    settle (uartReceive j q s) s =
      .next { afterEvent .uart (.memRead (uartAddr s.params.uartDrOff s) x.data) q s with
        rxbuf := s.rxbuf.setIfInBounds j (x.data.extractLsb' 0 8) } := by
  rw [uartReceive, onBus_answer h, settle, ← goto_record_popReply, ← popReply_rxbuf .uart s]
  rfl

theorem settle_uartWriteReg (h : nextReply .uart s = .answer x) (off : Nat) (v : Word) (q : Pos) :
    settle (uartWriteReg off v id q s) s = .next (afterEvent .uart (.memWrite (uartAddr off s) v) q s) := by
  rw [uartWriteReg, onBus_answer h, settle, ← goto_record_popReply]
  rfl

theorem settle_uartWriteReg_setDivisor (h : nextReply .uart s = .answer x) (off : Nat) (v : Word) (n f : Nat) (q : Pos) :
    settle (uartWriteReg off v (setDivisor n f) q s) s =
      .next { afterEvent .uart (.memWrite (uartAddr off s) v) q s with
        ibrd := BitVec.ofNat 16 n, fbrd := BitVec.ofNat 6 f } := by
  rw [uartWriteReg, onBus_answer h, settle, ← goto_record_popReply]
  rfl

theorem settle_i2cReadNext (h : nextReply .i2c s = .answer x) (len j : Nat) :
    settle (i2cReadNext len j s) s = .next
      (if j < len then
        { afterEvent .i2c (.i2cRead (j + 1 == len) (x.data.extractLsb' 0 8)) (.i2cByte (j + 1)) s with
          rxbuf := s.rxbuf.setIfInBounds j (x.data.extractLsb' 0 8) }
      else { afterEvent .i2c .i2cStop (.ended .ok) s with held := false }) := by
  unfold i2cReadNext
  split
  · exact settle_i2cRead h j _ _
  · exact settle_i2cStop h _

theorem settle_spiReadNext (h : nextReply .spi s = .answer x) (len j : Nat) :
    settle (spiReadNext len j s) s = .next
      (if j < len then
        { afterEvent .spi (.spiXfer 0x00 (dataByte x.data)) (.spiByte (j + 1)) s with
          rxbuf := s.rxbuf.setIfInBounds j (x.data.extractLsb' 0 8) }
      else { afterEvent .spi .csDeassert (.ended .ok) s with cs := false }) := by
  unfold spiReadNext
  split
  · exact settle_spiReceive h j _
  · exact settle_csDeassert h _

end Answered

/-- An acknowledge that is no fault lets the command go on (R182). -/
theorem checkAck_passes {a : Ack} {s : State} (h : s.params.nackIsFault = false ∨ a = .ack) (g : Progress) :
    checkAck a s g = g := by
  obtain ⟨fault, rfl, -⟩ | ⟨-, e⟩ := checkAck_cases a s g
  · simp [fault] at h
  · exact e

theorem checkAck_fails {s : State} (h : s.params.nackIsFault = true) (g : Progress) :
    checkAck .nack s g = i2cStop (.ended .busFault) s := by
  simp [checkAck, h]

/-- R183, as arithmetic. -/
theorem addressWrite_eq (dev : BitVec 7) : addressWrite dev = BitVec.ofNat 8 (2 * dev.toNat) := by
  apply BitVec.eq_of_toNat_eq
  have := dev.isLt
  rw [addressWrite, BitVec.toNat_append, Nat.shiftLeft_eq]
  simp
  omega

theorem addressRead_eq (dev : BitVec 7) : addressRead dev = BitVec.ofNat 8 (2 * dev.toNat + 1) := by
  apply BitVec.eq_of_toNat_eq
  have := dev.isLt
  have bits : dev.toNat <<< 1 + (1#1).toNat = dev.toNat <<< 1 ||| (1#1).toNat :=
    Nat.shiftLeft_add_eq_or_of_lt (by decide) dev.toNat
  rw [addressRead, BitVec.toNat_append, ← bits, Nat.shiftLeft_eq]
  simp
  omega

theorem lenValid_eq_false {len : Nat} (h : len < 1 ∨ 16 < len) : lenValid len = false := by
  rw [Bool.eq_false_iff, ne_eq, lenValid_iff]
  omega

end Sys2Proof.Machine
end

section
/-! The obligations about single steps of the bus commands, of 41_uart_baud.md, 42_i2c.md and 43_spi.md: each clause is the
marker of its position. -/

namespace Sys2Proof.Machine

/-- At its `complete(r)` a command completes with r. -/
theorem exec_ended {i : Instr} {s : State} {r : Result} (hp : s.phase = .txn (.ended r)) (h : stepOf i (.ended r) s = .ended r) :
    exec i s = .next (completed r s) := by
  rw [exec_txn hp, h]
  rfl

/-- A divisor's integer part fits 16 bits, so the word written is the number itself. -/
theorem setWidth_ofNat_ibrd {n : Nat} (h : n ≤ 65535) : (BitVec.ofNat 16 n).setWidth 32 = BitVec.ofNat 32 n := by
  apply BitVec.eq_of_toNat_eq
  simp
  omega

/-- Settles O28: the checks at the start, then the write of each position. -/
theorem uartInitProgramsTheUart : Obligations.UartInitProgramsTheUart := by
  refine ⟨fun s hp hd => ?_, fun s a n f hp hd h => ?_, fun s a h => ⟨fun f hp => ?_, fun hp => ?_, fun hp => ?_⟩,
    fun s hp => exec_ended hp rfl⟩
  · refine (framed_start hp _ _).trans ?_
    rw [hd]
    rfl
  · refine (framed_start hp _ _).trans ?_
    obtain ⟨-, -, -, -, hn, -⟩ := divisor_some hd
    rw [hd]
    refine (settle_uartWriteReg_setDivisor h _ _ n f _).trans ?_
    rw [setWidth_ofNat_ibrd hn]
  · rw [exec_txn hp, BitVec.ofNat_toNat]
    exact settle_uartWriteReg h _ _ _
  · exact (exec_txn hp _).trans (settle_uartWriteReg h _ _ _)
  · exact (exec_txn hp _).trans (settle_uartWriteReg h _ _ _)

/-- Settles O30: a flag read at the start and while TX-full is 1, then the write. -/
theorem uartWriteWaitsThenWrites : Obligations.UartWriteWaitsThenWrites := by
  refine ⟨fun d8 s a h => ⟨fun hp => ?_, fun fr hp => ?_⟩, fun d8 s hp => exec_ended hp rfl⟩
  · exact (framed_start hp _ _).trans (settle_uartReadFlags h _)
  · rw [exec_txn hp, BitVec.ofNat_toNat]
    simp only [stepOf, uartWriteStep]
    split
    · exact settle_uartReadFlags h _
    · exact settle_uartWriteReg h _ _ _

/-- Settles O33: the length check, then the flag read or the data read of each position. -/
theorem uartReadReceivesBytes : Obligations.UartReadReceivesBytes := by
  refine ⟨fun len s hp hl => ?_, fun len s a h => ⟨fun hp h1 h16 => ?_, fun j fr hp => ?_, fun j hp hj => ?_⟩,
    fun len j s hp hj => ?_⟩
  · refine (framed_start hp _ _).trans ?_
    rw [lenValid_eq_false hl]
    rfl
  · refine (framed_start hp _ _).trans ?_
    rw [if_pos (lenValid_iff.mpr ⟨h1, h16⟩)]
    exact settle_uartReadFlags h _
  · rw [exec_txn hp]
    simp only [stepOf, uartReadStep]
    split
    · exact settle_uartReadFlags h _
    · exact settle_uartReceive h j _
  · rw [exec_txn hp]
    simp only [stepOf, uartReadStep, if_pos hj]
    exact settle_uartReadFlags h _
  · rw [exec_txn hp]
    simp only [stepOf, uartReadStep, if_neg (not_lt.mpr hj)]
    rfl

/-- Settles O35: the address check, then the primitive of each position, and STOP after a NACK that is a fault. -/
theorem i2cWriteRunsItsFrame : Obligations.I2cWriteRunsItsFrame := by
  refine ⟨fun reg d8 s hp hd => ?_, fun reg d8 s x h => ⟨fun hp hd => ?_, fun hp => ?_, fun a ha => ⟨fun hp => ?_, fun hp => ?_,
    fun hp => ?_⟩, fun fault hp => ?_⟩, fun reg d8 s r hp => exec_ended hp rfl⟩
  · refine (framed_start hp _ _).trans ?_
    rw [if_pos hd]
    rfl
  · refine (framed_start hp _ _).trans ?_
    rw [if_neg hd]
    exact settle_i2cStart h _
  · rw [exec_txn hp, ← addressWrite_eq]
    exact settle_i2cWrite h _ _
  · rw [exec_txn hp, stepOf, i2cWriteStep, checkAck_passes ha]
    exact settle_i2cWrite h _ _
  · rw [exec_txn hp, stepOf, i2cWriteStep, checkAck_passes ha]
    exact settle_i2cWrite h _ _
  · rw [exec_txn hp, stepOf, i2cWriteStep, checkAck_passes ha]
    exact settle_i2cStop h _
  · simp only [List.mem_cons, List.not_mem_nil, or_false] at hp
    rcases hp with hp | hp | hp <;> rw [exec_txn hp, stepOf, i2cWriteStep, checkAck_fails fault] <;> exact settle_i2cStop h _

/-- Settles O36: the two checks, then the primitive of each position, and STOP after a NACK that is a fault. -/
theorem i2cReadRunsItsFrame : Obligations.I2cReadRunsItsFrame := by
  refine ⟨fun reg len s hp => ⟨fun hd => ?_, fun hd hl => ?_⟩, fun reg len s x h => ⟨fun hp hd h1 h16 => ?_, fun hp => ?_,
    fun hp => ?_, fun a ha => ⟨fun hp => ?_, fun hp => ?_, fun hp h1 => ?_⟩, fun j hp => ?_, fun fault hp => ?_⟩,
    fun reg len s r hp => exec_ended hp rfl⟩
  · refine (framed_start hp _ _).trans ?_
    rw [if_pos hd]
    rfl
  · refine (framed_start hp _ _).trans ?_
    rw [if_neg hd, lenValid_eq_false hl]
    rfl
  · refine (framed_start hp _ _).trans ?_
    rw [if_neg hd, if_pos (lenValid_iff.mpr ⟨h1, h16⟩)]
    exact settle_i2cStart h _
  · rw [exec_txn hp, ← addressWrite_eq]
    exact settle_i2cWrite h _ _
  · rw [exec_txn hp, ← addressRead_eq]
    exact settle_i2cWrite h _ _
  · rw [exec_txn hp, stepOf, i2cReadStep, checkAck_passes ha]
    exact settle_i2cWrite h _ _
  · rw [exec_txn hp, stepOf, i2cReadStep, checkAck_passes ha]
    exact settle_i2cRstart h _
  · rw [exec_txn hp, stepOf, i2cReadStep, checkAck_passes ha, settle_i2cReadNext h, if_pos (show 0 < len by omega),
      show (0 + 1 == len) = (len == 1) from BEq.comm]
  · rw [exec_txn hp]
    exact settle_i2cReadNext h len j
  · simp only [List.mem_cons, List.not_mem_nil, or_false] at hp
    rcases hp with hp | hp | hp <;> rw [exec_txn hp, stepOf, i2cReadStep, checkAck_fails fault] <;> exact settle_i2cStop h _

/-- Settles O39: the primitive of each position. -/
theorem spiWriteRunsItsFrame : Obligations.SpiWriteRunsItsFrame := by
  refine ⟨fun instr d8 s x h => ⟨fun hp => ?_, fun hp => ?_, fun hp => ?_, fun hp => ?_, fun hp => ?_, fun hp => ?_⟩,
    fun instr d8 s hp => exec_ended hp rfl⟩
  · exact (framed_start hp _ _).trans (settle_csAssert h _)
  · exact (exec_txn hp _).trans (settle_spiSend h _ _)
  · exact (exec_txn hp _).trans (settle_spiSend h _ _)
  · exact (exec_txn hp _).trans (settle_spiSend h _ _)
  · exact (exec_txn hp _).trans (settle_spiSend h _ _)
  · exact (exec_txn hp _).trans (settle_csDeassert h _)

/-- Settles O40: the length check, then the primitive of each position. -/
theorem spiReadRunsItsFrame : Obligations.SpiReadRunsItsFrame := by
  refine ⟨fun instr len s hp hl => ?_, fun instr len s x h => ⟨fun hp h1 h16 => ?_, fun hp => ?_, fun hp => ?_, fun hp => ?_,
    fun j hp => ?_⟩, fun instr len s hp => exec_ended hp rfl⟩
  · refine (framed_start hp _ _).trans ?_
    rw [lenValid_eq_false hl]
    rfl
  · refine (framed_start hp _ _).trans ?_
    rw [if_pos (lenValid_iff.mpr ⟨h1, h16⟩)]
    exact settle_csAssert h _
  · exact (exec_txn hp _).trans (settle_spiSend h _ _)
  · exact (exec_txn hp _).trans (settle_spiSend h _ _)
  · exact (exec_txn hp _).trans (settle_spiSend h _ _)
  · exact (exec_txn hp _).trans (settle_spiReadNext h len j)

/-- Settles O41: the primitives of each position, for both commands. -/
theorem spiCmdAndCmdrRunTheirFrames : Obligations.SpiCmdAndCmdrRunTheirFrames := by
  refine ⟨fun instr s x h => ⟨fun hp => ?_, fun hp => ?_, fun hp => ?_⟩, fun instr len s hp hl => ?_,
    fun instr len s x h => ⟨fun hp h1 h16 => ?_, fun hp => ?_, fun j hp => ?_⟩,
    fun instr len s hp => ⟨exec_ended hp rfl, exec_ended hp rfl⟩⟩
  · exact (framed_start hp _ _).trans (settle_csAssert h _)
  · exact (exec_txn hp _).trans (settle_spiSend h _ _)
  · exact (exec_txn hp _).trans (settle_csDeassert h _)
  · refine (framed_start hp _ _).trans ?_
    rw [lenValid_eq_false hl]
    rfl
  · refine (framed_start hp _ _).trans ?_
    rw [if_pos (lenValid_iff.mpr ⟨h1, h16⟩)]
    exact settle_csAssert h _
  · exact (exec_txn hp _).trans (settle_spiSend h _ _)
  · exact (exec_txn hp _).trans (settle_spiReadNext h len j)

end Sys2Proof.Machine
end

section
/-! A transaction does not read the phase: from one position it does the same for a command and for an attempt of a poll
(R251). -/

namespace Sys2Proof.Machine

/-- Where a transaction gets, with another phase held meanwhile. -/
def Progress.during (x : Phase) : Progress → Progress
  | .reached q t => .reached q (goto x t)
  | .waits t => .waits (goto x t)
  | .ended r => .ended r
  | .stray => .stray

@[simp] theorem repliesOf_goto (b : Bus) (x : Phase) (s : State) : repliesOf b (goto x s) = repliesOf b s := by
  cases b <;> rfl

@[simp] theorem nextReply_goto (b : Bus) (x : Phase) (s : State) : nextReply b (goto x s) = nextReply b s := by
  simp [nextReply]

@[simp] theorem popReply_goto (b : Bus) (x : Phase) (s : State) : popReply b (goto x s) = goto x (popReply b s) := by
  unfold popReply
  rw [repliesOf_goto]
  split
  · rfl
  · rfl
  · cases b <;> rfl

theorem onBus_goto {b : Bus} {x : Phase} {s : State} {k k' : Answer → State → Progress}
    (h : ∀ a t, k a (goto x t) = (k' a t).during x) : onBus b (goto x s) k = (onBus b s k').during x := by
  simp only [onBus, nextReply_goto, popReply_goto]
  cases nextReply b s with
  | answer a => exact h a _
  | pending => rfl
  | never => rfl

section Primitives

variable (x : Phase) (s : State)

@[simp] theorem i2cStart_goto (q : Pos) : i2cStart q (goto x s) = (i2cStart q s).during x := onBus_goto fun _ _ => rfl
@[simp] theorem i2cRstart_goto (q : Pos) : i2cRstart q (goto x s) = (i2cRstart q s).during x := onBus_goto fun _ _ => rfl
@[simp] theorem i2cWrite_goto (b : Byte) (q : Ack → Pos) : i2cWrite b q (goto x s) = (i2cWrite b q s).during x :=
  onBus_goto fun _ _ => rfl
@[simp] theorem i2cRead_goto (j : Nat) (last : Bool) (q : Pos) :
    i2cRead j last q (goto x s) = (i2cRead j last q s).during x :=
  onBus_goto fun _ _ => rfl
@[simp] theorem i2cStop_goto (q : Pos) : i2cStop q (goto x s) = (i2cStop q s).during x := onBus_goto fun _ _ => rfl
@[simp] theorem csAssert_goto (q : Pos) : csAssert q (goto x s) = (csAssert q s).during x := onBus_goto fun _ _ => rfl
@[simp] theorem csDeassert_goto (q : Pos) : csDeassert q (goto x s) = (csDeassert q s).during x := onBus_goto fun _ _ => rfl
@[simp] theorem spiSend_goto (b : Byte) (q : Pos) : spiSend b q (goto x s) = (spiSend b q s).during x :=
  onBus_goto fun _ _ => rfl
@[simp] theorem spiReceive_goto (j : Nat) (q : Pos) : spiReceive j q (goto x s) = (spiReceive j q s).during x :=
  onBus_goto fun _ _ => rfl
@[simp] theorem uartReadFlags_goto (q : Word → Pos) : uartReadFlags q (goto x s) = (uartReadFlags q s).during x :=
  onBus_goto fun _ _ => rfl
@[simp] theorem uartReceive_goto (j : Nat) (q : Pos) : uartReceive j q (goto x s) = (uartReceive j q s).during x :=
  onBus_goto fun _ _ => rfl
@[simp] theorem uartWriteReg_goto (off : Nat) (v : Word) (q : Pos) :
    uartWriteReg off v id q (goto x s) = (uartWriteReg off v id q s).during x :=
  onBus_goto fun _ _ => rfl

theorem checkAck_goto (a : Ack) {g g' : Progress} (h : g = g'.during x) :
    checkAck a (goto x s) g = (checkAck a s g').during x := by
  simp only [checkAck, goto_params, i2cStop_goto, h]
  split <;> rfl

@[simp] theorem i2cReadNext_goto (len j : Nat) : i2cReadNext len j (goto x s) = (i2cReadNext len j s).during x := by
  unfold i2cReadNext
  split <;> simp

@[simp] theorem spiReadNext_goto (len j : Nat) : spiReadNext len j (goto x s) = (spiReadNext len j s).during x := by
  unfold spiReadNext
  split <;> simp

theorem stepOf_goto (i : Instr) (p : Pos) : stepOf i p (goto x s) = (stepOf i p s).during x := by
  cases i with
  | uartInit =>
    simp only [stepOf, uartInitStep]
    split <;> simp [Progress.during]
  | uartWrite d8 =>
    simp only [stepOf, uartWriteStep]
    split
    case h_2 => split <;> simp_all
    all_goals simp [Progress.during]
  | uartRead len =>
    simp only [stepOf, uartReadStep]
    split
    case h_2 => split <;> simp_all
    case h_3 => split <;> simp [Progress.during]
    all_goals simp [Progress.during]
  | i2cWrite reg d8 =>
    simp only [stepOf, i2cWriteStep]
    split
    case h_3 | h_4 | h_5 => exact checkAck_goto x s _ (by simp)
    all_goals simp [Progress.during]
  | i2cRead reg len =>
    simp only [stepOf, i2cReadStep]
    split
    case h_3 | h_4 | h_6 => exact checkAck_goto x s _ (by simp)
    all_goals simp [Progress.during]
  | spiWrite instr d8 =>
    simp only [stepOf, spiWriteStep]
    split <;> simp [Progress.during]
  | spiRead instr len =>
    simp only [stepOf, spiReadStep]
    split <;> simp [Progress.during]
  | spiCmd instr =>
    simp only [stepOf, spiCmdStep]
    split <;> simp [Progress.during]
  | spiCmdr instr len =>
    simp only [stepOf, spiCmdrStep]
    split <;> simp [Progress.during]
  | _ => rfl

end Primitives

end Sys2Proof.Machine
end

section
/-! The steps of the poll commands (R252, R255, R258, R262). -/

namespace Sys2Proof.Machine

theorem statusTxn_i2cRead {s : State} {reg : Byte} (h : decode s.pollTxn = .ok (.i2cRead reg 1)) (hd : s.i2cDev ≠ 0) :
    statusTxn s = some (.i2cRead reg 1) := by
  unfold statusTxn
  rw [h]
  exact if_pos ⟨rfl, hd⟩

theorem statusTxn_spiRead {s : State} {instr : Byte} (h : decode s.pollTxn = .ok (.spiRead instr 1)) :
    statusTxn s = some (.spiRead instr 1) := by
  unfold statusTxn
  rw [h]
  rfl

theorem statusTxn_spiCmdr {s : State} {instr : Byte} (h : decode s.pollTxn = .ok (.spiCmdr instr 1)) :
    statusTxn s = some (.spiCmdr instr 1) := by
  unfold statusTxn
  rw [h]
  rfl

theorem statusTxn_uartRead {s : State} (h : decode s.pollTxn = .ok (.uartRead 1)) : statusTxn s = some (.uartRead 1) := by
  unfold statusTxn
  rw [h]
  rfl

section Steps

variable {s t : State} {i j : Instr} {before after : Phase} {p q : Pos}

theorem exec_pollAttempt (poll : Polls i before after) (hp : s.phase = .pollAttempt p) : exec i s = attemptStep after p s := by
  cases poll <;> simp [exec, execPollStep, execPollRun, hp]

/-- In Idle with budget left and a valid POLL_TXN, an attempt begins (R252). -/
theorem exec_first (poll : Polls i before after) (hp : s.phase = before) (idle : s.pollState = .idle)
    (budget : s.pollAttempts < s.pollMax) (txn : statusTxn s = some j) : exec i s = attemptStep after .first s := by
  have ok : txnOk s = true := txnOk_iff.mpr ⟨j, txn⟩
  have due : ¬ s.pollMax ≤ s.pollAttempts := BitVec.not_le.mpr budget
  cases poll <;> simp [exec, execPollStep, execPollRun, hp, idle, terminal, ok, transition, due]

/-- An attempt reaches what its transaction reaches, in the phase of an attempt. -/
theorem attemptStep_of_settle (txn : statusTxn s = some j) (h : settle (stepOf j p s) s = .next t)
    (ht : t.phase = .txn q) (hs : s.phase ≠ .txn q) (after : Phase) :
    attemptStep after p s = .next { t with phase := .pollAttempt q } := by
  have does := stepOf_does j p s
  rw [← statusStep_eq txn] at h does
  unfold attemptStep
  obtain ⟨q', u, e, rfl⟩ | e | ⟨r, e, rfl⟩ := settle_next h
  · simp only [goto_phase, Phase.txn.injEq] at ht
    rw [e, ht]
    rfl
  · rw [e] at does
    obtain ⟨-, b, -, rfl⟩ := does
    exact absurd (by simpa using ht) hs
  · simp at ht

/-- An attempt performs the steps of its transaction. -/
theorem exec_poll_of_exec_txn (poll : Polls i before after) (txn : statusTxn s = some j)
    (h : exec j (goto (.txn p) s) = .next t) (ht : t.phase = .txn q) :
    exec i (goto (.pollAttempt p) s) = .next (goto (.pollAttempt q) t) := by
  have txn' : statusTxn (goto (.pollAttempt p) s) = some j := txn
  rw [exec_txn rfl, stepOf_goto] at h
  rw [exec_pollAttempt poll rfl, attemptStep, statusStep_eq txn', stepOf_goto]
  generalize stepOf j p s = g at h
  cases g with
  | reached q' u =>
    simp only [Progress.during, settle, Host.Outcome.next.injEq] at h
    subst h
    simp only [goto_phase, Phase.txn.injEq] at ht
    subst ht
    rfl
  | waits u =>
    simp only [Progress.during, settle, Host.Outcome.next.injEq] at h
    subst h
    simp only [goto_phase, Phase.txn.injEq] at ht
    subst ht
    rfl
  | ended r =>
    simp only [Progress.during, settle, Host.Outcome.next.injEq] at h
    subst h
    simp at ht
  | stray => simp [Progress.during, settle] at h

/-- Where the transaction completes, the attempt ends. -/
theorem exec_poll_of_exec_completed {r : Result} (poll : Polls i before after) (txn : statusTxn s = some j)
    (h : exec j (goto (.txn p) s) = .next (complete r (goto (.txn p) s))) :
    exec i (goto (.pollAttempt p) s) = .next (attemptDone r after (goto (.pollAttempt p) s)) := by
  have txn' : statusTxn (goto (.pollAttempt p) s) = some j := txn
  rw [exec_txn rfl, stepOf_goto] at h
  rw [exec_pollAttempt poll rfl, attemptStep, statusStep_eq txn', stepOf_goto]
  generalize stepOf j p s = g at h
  cases g with
  | reached q' u =>
    simp only [Progress.during, settle, Host.Outcome.next.injEq] at h
    simpa using congrArg State.phase h
  | waits u =>
    simp only [Progress.during, settle, Host.Outcome.next.injEq] at h
    simpa using congrArg State.phase h
  | ended r' =>
    simp only [Progress.during, settle, Host.Outcome.next.injEq] at h
    obtain rfl : r' = r := by simpa using congrArg State.result h
    rfl
  | stray => simp [Progress.during, settle] at h

end Steps

end Sys2Proof.Machine
end

section
/-! The obligations about single steps of the poll commands, of 45_poll.md. -/

namespace Sys2Proof.Machine

/-- Settles O45: what `statusTxn` can answer, and each of its answers. -/
theorem statusTransactionsAreOneByteReads : Obligations.StatusTransactionsAreOneByteReads := by
  intro s
  rw [txnOk_iff]
  constructor
  · rintro ⟨i, txn⟩
    obtain ⟨hd, ⟨reg, rfl, dev⟩ | ⟨instr, rfl⟩ | ⟨instr, rfl⟩ | rfl⟩ := statusTxn_some txn
    · exact .inl ⟨reg, hd, dev⟩
    · exact .inr (.inl ⟨instr, hd⟩)
    · exact .inr (.inr (.inl ⟨instr, hd⟩))
    · exact .inr (.inr (.inr hd))
  · rintro (⟨reg, hd, dev⟩ | ⟨instr, hd⟩ | ⟨instr, hd⟩ | hd)
    · exact ⟨_, statusTxn_i2cRead hd dev⟩
    · exact ⟨_, statusTxn_spiRead hd⟩
    · exact ⟨_, statusTxn_spiCmdr hd⟩
    · exact ⟨_, statusTxn_uartRead hd⟩

/-- Settles O46, state by state. -/
theorem pollStepMakesOneTransition : Obligations.PollStepMakesOneTransition := by
  refine fun s => ⟨fun hp => ⟨fun h => ?_, fun h => ?_, fun h => ?_, fun h spent => ?_, fun h budget ok => ?_, fun h => ?_,
    fun h => ?_⟩, fun hp => ?_⟩
  · simp [exec, execPollStep, hp, h, terminal, codeOf]; rfl
  · simp [exec, execPollStep, hp, h, terminal, codeOf]; rfl
  · simp [exec, execPollStep, hp, h, terminal, codeOf]; rfl
  · have : s.pollMax ≤ s.pollAttempts := BitVec.le_def.mpr spent
    simp [exec, execPollStep, hp, h, terminal, transition, this, BitVec.not_lt.mpr this]
  · simp [exec, execPollStep, hp, h, terminal, ok, BitVec.lt_def.mpr budget]; rfl
  · simp [exec, execPollStep, hp, h, terminal, transition, evaluated, BitVec.le_def]
  · simp [exec, execPollStep, hp, h, terminal, transition]
  · simp only [exec, execPollStep, hp]
    cases s.pollState <;> rfl

/-- Settles O47, state by state. -/
theorem pollInitArmsAndPollRunLoops : Obligations.PollInitArmsAndPollRunLoops := by
  refine fun s => ⟨fun hp => ⟨fun ok => ⟨?_, ?_⟩, fun ok => ⟨?_, ?_⟩⟩, fun hp => ⟨fun h => ?_, fun h => ?_, fun h => ?_,
    fun h spent => ?_, fun h => ?_, fun h => ?_⟩⟩
  · simp [exec, execPollInit, atStart_start hp, ok]; rfl
  · simp [exec, execPollRun, hp, ok]; rfl
  · simp [exec, execPollInit, atStart_start hp, ok]; rfl
  · simp [exec, execPollRun, hp, ok]; rfl
  · simp [exec, execPollRun, hp, h, terminal, codeOf]; rfl
  · simp [exec, execPollRun, hp, h, terminal, codeOf]; rfl
  · simp [exec, execPollRun, hp, h, terminal, codeOf]; rfl
  · have : s.pollMax ≤ s.pollAttempts := BitVec.le_def.mpr spent
    simp [exec, execPollRun, hp, h, terminal, transition, this]
  · simp [exec, execPollRun, hp, h, terminal, transition, evaluated, BitVec.le_def]
  · simp [exec, execPollRun, hp, h, terminal, transition]

/-- Settles O48: the transaction does not read the phase, so a poll and the command take the same steps. -/
theorem attemptPerformsTheStatusTransaction : Obligations.AttemptPerformsTheStatusTransaction := by
  intro s i poll back p hpoll txn
  have polls : ∃ before, Polls poll before back := by
    obtain ⟨rfl, rfl⟩ | ⟨rfl, rfl⟩ := hpoll
    · exact ⟨_, .step⟩
    · exact ⟨_, .run⟩
  obtain ⟨before, polls⟩ := polls
  exact ⟨fun q t h ht => ⟨_, exec_poll_of_exec_txn polls txn h ht, rfl, rfl⟩,
    exec_poll_of_exec_completed polls txn, exec_poll_of_exec_completed polls txn⟩

/-- Settles O49: the first step of the attempt is the first primitive of its transaction. -/
theorem attemptBeginsWithTheFirstPrimitive : Obligations.AttemptBeginsWithTheFirstPrimitive := by
  intro s instr x idle budget
  have budget : s.pollAttempts < s.pollMax := BitVec.lt_def.mpr budget
  have begins {i j : Instr} {before after : Phase} {q : Pos} {t : State} (poll : Polls i before after)
      (txn : statusTxn s = some j) (h : settle (stepOf j .first s) s = .next t) (ht : t.phase = .txn q)
      (hp : s.phase = before) : exec i s = .next { t with phase := .pollAttempt q } := by
    rw [exec_first poll hp idle budget txn]
    exact attemptStep_of_settle txn h ht (by cases poll <;> simp [hp]) after
  refine ⟨fun h hd => ?_, fun h hd dev => ?_, fun h hd => ?_⟩
  · obtain ⟨j, txn, first⟩ : ∃ j, statusTxn s = some j ∧ stepOf j .first s = csAssert .spiInstr s := by
      obtain hd | hd := hd
      · exact ⟨_, statusTxn_spiCmdr hd, rfl⟩
      · exact ⟨_, statusTxn_spiRead hd, rfl⟩
    have := settle_csAssert h .spiInstr
    rw [← first] at this
    exact ⟨begins .step txn this rfl, begins .run txn this rfl⟩
  · have txn := statusTxn_i2cRead hd dev
    exact ⟨begins .step txn (settle_i2cStart h _) rfl, begins .run txn (settle_i2cStart h _) rfl⟩
  · have txn := statusTxn_uartRead hd
    exact ⟨begins .step txn (settle_uartReadFlags h _) rfl, begins .run txn (settle_uartReadFlags h _) rfl⟩

end Sys2Proof.Machine
end

section
/-! Where the next marker is a primitive whose transport does not complete it, the sequencer waits (R81). -/

namespace Sys2Proof.Machine

/-- The checks of a framed command pass: its length is valid (R107), and for an I2C command the device address is not 0
(R180). -/
def Enters (i : Instr) (s : State) : Prop := opens i = true ∧ (busOf i = .i2c → s.i2cDev ≠ 0)

/-- A command whose checks pass performs its first primitive in its first step (R133). -/
theorem exec_of_enters {i : Instr} {s : State} (h : Enters i s) (hp : s.phase = .start) :
    exec i s = settle (stepOf i .first s) s := by
  obtain ⟨ho, hd⟩ := h
  cases i with
  | uartWrite | spiWrite | spiCmd => exact framed_start hp _ _
  | uartRead | spiRead | spiCmdr => exact (framed_start hp _ _).trans (if_pos ho)
  | i2cWrite => exact (framed_start hp _ _).trans (if_neg (hd rfl))
  | i2cRead => exact ((framed_start hp _ _).trans (if_neg (hd rfl))).trans (if_pos ho)
  | _ => simp [opens] at ho

/-- With DEV = 0 an I2C command that could open completes at once (R180). -/
theorem exec_of_dev_zero {i : Instr} {s : State} (ho : opens i = true) (hi : busOf i = .i2c) (hd : s.i2cDev = 0)
    (hp : s.phase = .start) : exec i s = .next (complete .invalidConfig s) := by
  cases i with
  | i2cWrite | i2cRead => exact (framed_start hp _ _).trans (if_pos hd)
  | _ => simp_all [opens, busOf]

section Waits

variable {i : Instr} {s : State} {p q : Pos} {e : Event} {byte : Option (Nat × Byte)}

theorem onBus_waits {b : Bus} (h : ∀ a, nextReply b s ≠ .answer a) (k : Answer → State → Progress) :
    onBus b s k = .waits (popReply b s) := by
  obtain ⟨a, ha, -⟩ | ⟨-, e⟩ := onBus_cases b s k
  · exact absurd ha (h a)
  · exact e

theorem i2cStart_waits (h : ∀ a, nextReply .i2c s ≠ .answer a) (q : Pos) : i2cStart q s = .waits (popReply .i2c s) :=
  onBus_waits h _

theorem i2cWrite_waits (h : ∀ a, nextReply .i2c s ≠ .answer a) (b : Byte) (q : Ack → Pos) :
    i2cWrite b q s = .waits (popReply .i2c s) :=
  onBus_waits h _

theorem csAssert_waits (h : ∀ a, nextReply .spi s ≠ .answer a) (q : Pos) : csAssert q s = .waits (popReply .spi s) :=
  onBus_waits h _

theorem csDeassert_waits (h : ∀ a, nextReply .spi s ≠ .answer a) (q : Pos) : csDeassert q s = .waits (popReply .spi s) :=
  onBus_waits h _

theorem spiSend_waits (h : ∀ a, nextReply .spi s ≠ .answer a) (b : Byte) (q : Pos) :
    spiSend b q s = .waits (popReply .spi s) :=
  onBus_waits h _

theorem uartReadFlags_waits (h : ∀ a, nextReply .uart s ≠ .answer a) (q : Word → Pos) :
    uartReadFlags q s = .waits (popReply .uart s) :=
  onBus_waits h _

theorem uartWriteReg_waits (h : ∀ a, nextReply .uart s ≠ .answer a) (off : Nat) (v : Word) (upd : State → State) (q : Pos) :
    uartWriteReg off v upd q s = .waits (popReply .uart s) :=
  onBus_waits h _

/-- A pending acknowledge does not change that the sequencer waits: both ways on are primitives of the I2C bus. -/
theorem checkAck_waits (h : ∀ a, nextReply .i2c s ≠ .answer a) {g : Progress} (hg : g = .waits (popReply .i2c s)) (a : Ack) :
    checkAck a s g = .waits (popReply .i2c s) := by
  obtain ⟨-, -, e⟩ | ⟨-, e⟩ := checkAck_cases a s g
  · rw [e]
    exact onBus_waits h _
  · rw [e, hg]

theorem i2cReadNext_waits (h : ∀ a, nextReply .i2c s ≠ .answer a) (len j : Nat) :
    i2cReadNext len j s = .waits (popReply .i2c s) := by
  unfold i2cReadNext
  split <;> exact onBus_waits h _

theorem spiReadNext_waits (h : ∀ a, nextReply .spi s ≠ .answer a) (len j : Nat) :
    spiReadNext len j s = .waits (popReply .spi s) := by
  unfold spiReadNext
  split <;> exact onBus_waits h _

/-- A position with a primitive to perform waits as long as the transport of its command does not complete it. -/
theorem Marker.waits (m : Marker s.params.nackIsFault i p e byte q) (h : ∀ a, nextReply (busOf i) s ≠ .answer a) :
    stepOf i p s = .waits (popReply (busOf i) s) := by
  cases m with
  | i2cWriteRegister | i2cWriteData | i2cWriteStop | i2cReadRegister | i2cReadRestart =>
    exact checkAck_waits h (onBus_waits h _) _
  | i2cReadFirst | i2cReadNone => exact checkAck_waits h (i2cReadNext_waits h _ _) _
  | i2cReadByte | i2cReadStop => exact i2cReadNext_waits h _ _
  | spiReadByte | spiReadRelease | spiCmdrByte | spiCmdrRelease => exact spiReadNext_waits h _ _
  | i2cWriteNack _ nack =>
    simp only [writeNacks, List.mem_cons, List.not_mem_nil, or_false] at nack
    obtain rfl | rfl | rfl := nack <;> exact checkAck_waits h (onBus_waits h _) _
  | i2cReadNack _ nack =>
    simp only [readNacks, List.mem_cons, List.not_mem_nil, or_false] at nack
    obtain rfl | rfl | rfl := nack
    · exact checkAck_waits h (onBus_waits h _) _
    · exact checkAck_waits h (onBus_waits h _) _
    · exact checkAck_waits h (i2cReadNext_waits h _ _) _
  | uartWriteAgain | uartWriteData | uartReadAgain | uartReadByte =>
    simp only [stepOf, uartWriteStep, uartReadStep]
    split <;> exact onBus_waits h _
  | uartReadNext more => exact (if_pos more).trans (onBus_waits h _)
  | uartInitFbrd | uartInitLcr | uartInitCr => exact uartWriteReg_waits h _ _ _ _
  | uartWriteFlags | uartReadFlags => exact uartReadFlags_waits h _
  | i2cWriteStart | i2cReadStart => exact i2cStart_waits h _
  | i2cWriteAddress | i2cReadAddress | i2cReadAgain => exact i2cWrite_waits h _ _
  | spiWriteAssert | spiReadAssert | spiCmdAssert | spiCmdrAssert => exact csAssert_waits h _
  | spiWriteRelease | spiCmdRelease => exact csDeassert_waits h _
  | _ => exact spiSend_waits h _ _

end Waits

/-! ### Which step uses an answer up -/

theorem repliesOf_popReply_other {b c : Bus} (h : b ≠ c) (s : State) : repliesOf b (popReply c s) = repliesOf b s := by
  unfold popReply
  split
  · cases b <;> rfl
  · rfl
  · exact repliesOf_setReplies_other h _ s

@[simp] theorem repliesOf_complete (b : Bus) (r : Result) (s : State) : repliesOf b (complete r s) = repliesOf b s := by
  cases b <;> rfl

@[simp] theorem repliesOf_setDivisor (b : Bus) (n f : Nat) (s : State) : repliesOf b (setDivisor n f s) = repliesOf b s := by
  cases b <;> rfl

@[simp] theorem repliesOf_stored (b : Bus) (byte : Option (Nat × Byte)) (s : State) :
    repliesOf b (stored byte s) = repliesOf b s := by
  cases b <;> cases byte <;> rfl

@[simp] theorem repliesOf_performed (b : Bus) (e : Event) (s : State) :
    repliesOf b (performed e s) = repliesOf b (popReply (eventBus e) s) := by
  cases b <;> rfl

@[simp] theorem repliesOf_attemptDone (b : Bus) (r : Result) (after : Phase) (s : State) :
    repliesOf b (attemptDone r after s) = repliesOf b s := by
  cases b <;> cases r <;> rfl

/-- A primitive uses up a reply of its own bus only. -/
theorem eventBus_of_repliesOf_ne {b : Bus} {e : Event} {s : State} (h : repliesOf b (performed e s) ≠ repliesOf b s) :
    eventBus e = b := by
  by_contra other
  rw [repliesOf_performed] at h
  exact h (repliesOf_popReply_other (Ne.symm other) s)

/-- A transaction waits at the position at which it would use up a reply. -/
theorem settle_waits {i : Instr} {s : State} {p q : Pos} {e : Event} {byte : Option (Nat × Byte)}
    (m : Marker s.params.nackIsFault i p e byte q) (h : ∀ a, nextReply (busOf i) s ≠ .answer a) :
    settle (stepOf i p s) s = .next (popReply (busOf i) s) := by
  rw [m.waits h]
  rfl

theorem attemptStep_waits {j : Instr} {s : State} {p q : Pos} {e : Event} {byte : Option (Nat × Byte)}
    (txn : statusTxn s = some j) (m : Marker s.params.nackIsFault j p e byte q)
    (h : ∀ a, nextReply (busOf j) s ≠ .answer a) (after : Phase) : attemptStep after p s = .next (popReply (busOf j) s) := by
  rw [attemptStep, statusStep_eq txn, m.waits h]

/-- Where UART.INIT would use up a reply at its start, its divisor is valid (R155), and its first write waits. -/
theorem exec_uartInit_waits {s s' u : State} (hp : s.phase = .start) (hp' : s'.phase = .start)
    (own : hostOwned s' = hostOwned s) (h : exec .uartInit s' = .next u) (used : repliesOf .uart u ≠ repliesOf .uart s')
    (unanswered : ∀ x, nextReply .uart s ≠ .answer x) : exec .uartInit s = .next (popReply .uart s) := by
  have clk : s'.clkHz = s.clkHz := congrArg HostOwned.clkHz own
  have baud : s'.baud = s.baud := congrArg HostOwned.baud own
  simp only [exec, execUartInit, framed_start hp'] at h
  simp only [exec, execUartInit, framed_start hp]
  rw [clk, baud] at h
  cases hd : divisor s.clkHz.toNat s.baud.toNat with
  | none =>
    simp only [hd, Host.Outcome.next.injEq] at h
    subst h
    simp at used
  | some d =>
    simp only [uartWriteReg_waits unanswered]
    rfl

/-- The step of a command that uses up a reply of bus b waits instead where the transport of b does not complete. -/
theorem exec_waits {i : Instr} {b : Bus} {s u : State} {rs : List Reply} {x : Answer}
    (answered : nextReply b (setReplies b rs s) = .answer x) (h : exec i (setReplies b rs s) = .next u)
    (used : repliesOf b u ≠ rs) (unanswered : ∀ a, nextReply b s ≠ .answer a) : exec i s = .next (popReply b s) := by
  have used' : repliesOf b u ≠ repliesOf b (setReplies b rs s) := by simpa using used
  cases acts_of_exec h with
  | waits _ _ none =>
    refine absurd (repliesOf_popReply_other ?_ _) used'
    rintro rfl
    exact none x answered
  | marker place moves =>
    obtain rfl : busOf i = b :=
      moves.eventBus ▸ eventBus_of_repliesOf_ne (s := setReplies b rs s) (by simpa using used)
    rw [setReplies_params] at moves
    obtain hp | ⟨hp, rfl, ho⟩ := place
    · rw [exec_txn (by simpa using hp)]
      exact settle_waits moves unanswered
    · have enters : Enters i s := by
        refine ⟨ho, fun hi hd => ?_⟩
        rw [exec_of_dev_zero ho hi (by simpa using hd) hp] at h
        exact absurd (congrArg (repliesOf (busOf i)) (Host.Outcome.next.inj h).symm) (by simpa using used)
      rw [exec_of_enters enters (by simpa using hp)]
      exact settle_waits moves unanswered
  | divisorWrite place =>
    obtain rfl : Bus.uart = b := eventBus_of_repliesOf_ne (e := .memWrite _ _) (s := setReplies b rs s) (by simpa using used)
    exact exec_uartInit_waits (by simpa using place) place rfl h used' unanswered
  | attempt poll txn place moves => 
    obtain rfl : busOf _ = b :=
      moves.eventBus ▸ eventBus_of_repliesOf_ne (s := setReplies b rs s) (by simpa using used)
    rw [setReplies_params] at moves
    have txn : statusTxn s = some _ := (statusTxn_congr (by simp) (by simp)).trans txn
    simp only [setReplies_phase, setReplies_pollState, setReplies_pollAttempts, setReplies_pollMax] at place
    obtain hp | ⟨hp, rfl, idle, budget⟩ := place
    · rw [exec_pollAttempt poll hp]
      exact attemptStep_waits txn moves unanswered _
    · rw [exec_first poll hp idle budget txn]
      exact attemptStep_waits txn moves unanswered _
  | attemptEnds => exact absurd (repliesOf_attemptDone b _ _ _) used'
  | _ => exact absurd (by cases b <;> rfl) used'

/-- The sequencer's step on a turn at which it would use up an answer of bus b. -/
theorem step_waits {b : Bus} {s u : State} {x : Answer} (ha : s.params.aligned = true) (hg : s.agenda = [])
    (h : step (setReplies b [.answer x] s) = .next u) (used : repliesOf b u = [])
    (unanswered : ∀ a, nextReply b s ≠ .answer a) : step s = .next (popReply b s) := by
  have used' : repliesOf b u ≠ [.answer x] := by simp [used]
  rw [step_of_agenda_nil (by simpa using ha) (by simpa using hg)] at h
  obtain ⟨-, rfl⟩ | ⟨hb, i, hd, h⟩ | ⟨-, -, -, rfl⟩ := sequencerStep_cases h
  · simp at used
  · rw [step_exec ha hg (by simpa using hb) (by simpa using hd)]
    exact exec_waits (nextReply_cons (repliesOf_setReplies ..)) h used' unanswered
  · simp at used

/-- A framed command whose first primitive waits for ever has no other step. -/
theorem run_stuck {i : Instr} {s : State} {q : Pos} {e : Event} {byte : Option (Nat × Byte)} (hs : begins i s = true)
    (enters : Enters i s) (m : Marker s.params.nackIsFault i .first e byte q)
    (never : (repliesOf (busOf i) s).head? = some .never) (n : Nat) : run n s = .next s := by
  obtain ⟨ha, hg, hb, hp, hd⟩ := begins_iff.mp hs
  obtain ⟨rest, hr⟩ := List.head?_eq_some_iff.mp never
  apply run_fixed
  rw [step_exec ha hg hb hd, exec_of_enters enters hp, settle_waits m (by simp [nextReply_cons hr]), popReply_never hr]

end Sys2Proof.Machine
end

section
/-! The obligation about a transport that never completes, of 20_memory.md. -/

namespace Sys2Proof.Machine

/-- Settles O20: what would use up an answer of bus b waits for it, and a reply that never comes stays. -/
theorem transportThatNeverCompletesLeavesTheSequencerStuck :
    Obligations.TransportThatNeverCompletesLeavesTheSequencerStuck := by
  refine ⟨fun b s u a rest ha hg h used => ⟨fun never => ?_, fun pending => ?_⟩, fun s n instr d8 reg =>
    ⟨fun hs never => ?_, fun hs hd never => ?_, fun hs never => ?_⟩⟩
  · apply run_fixed
    rw [step_waits ha hg h used (by simp [nextReply_cons never]), popReply_never never]
  · rw [step_waits ha hg h used (by simp [nextReply_cons pending]), popReply_pending pending]
  · exact run_stuck hs ⟨rfl, by simp [busOf]⟩ .spiWriteAssert never n
  · exact run_stuck hs ⟨rfl, fun _ => hd⟩ .i2cWriteStart never n
  · exact run_stuck hs ⟨rfl, by simp [busOf]⟩ (.uartWriteFlags (a := 0) (v := 0)) never n

end Sys2Proof.Machine
end

section
/-! Runs of a transaction whose answers are listed: a script names, answer by answer, the primitives of a transaction, and
what it leaves is said once (R80, R132). -/

namespace Sys2Proof.Machine

/-- A primitive that took place, and the byte of RXBUF it wrote, where it received one. -/
abbrev Deed := Event × Option (Nat × Byte)

/-- With answer x at position p, command i performs the primitive e and stands at q: from every state whose configuration and
parameters are those of s. -/
def Answers (i : Instr) (s : State) (p : Pos) (x : Answer) (d : Deed) (q : Pos) : Prop :=
  ∀ t, hostOwned t = hostOwned s → nextReply (busOf i) t = .answer x →
    stepOf i p t = .reached q (stored d.2 (performed d.1 t))

/-- What command i does from position p with these answers, one by one. -/
inductive Script (i : Instr) (s : State) : Pos → List Answer → List Deed → Pos → Prop
  | nil {p} : Script i s p [] [] p
  | cons {p q r x xs d ds} (first : Answers i s p x d q) (rest : Script i s q xs ds r) : Script i s p (x :: xs) (d :: ds) r

theorem Script.append {i : Instr} {s : State} {p q r : Pos} {xs ys : List Answer} {ds es : List Deed}
    (h : Script i s p xs ds q) (h' : Script i s q ys es r) : Script i s p (xs ++ ys) (ds ++ es) r := by
  induction h with
  | nil => exact h'
  | cons first _ ih => exact .cons first (ih h')

theorem Script.snoc {i : Instr} {s : State} {p q r : Pos} {xs : List Answer} {ds : List Deed} {x : Answer} {d : Deed}
    (h : Script i s p xs ds q) (last : Answers i s q x d r) : Script i s p (xs ++ [x]) (ds ++ [d]) r :=
  h.append (.cons last .nil)

/-- A script is the same from every state with this configuration. -/
theorem Script.of_hostOwned {i : Instr} {s t : State} {p q : Pos} {xs : List Answer} {ds : List Deed}
    (own : hostOwned t = hostOwned s) (h : Script i s p xs ds q) : Script i t p xs ds q := by
  induction h with
  | nil => exact .nil
  | cons first _ ih => exact .cons (fun u hu => first u (hu.trans own)) ih

theorem nextReply_setReplies (b : Bus) (r : Reply) (rs : List Reply) (s : State) : nextReply b (setReplies b (r :: rs) s) = r :=
  nextReply_cons (repliesOf_setReplies b _ s)

/-- What a script does is in the table of markers. -/
theorem Answers.marker {i : Instr} {s : State} {p q : Pos} {x : Answer} {d : Deed} (h : Answers i s p x d q) :
    ∃ byte, Marker s.params.nackIsFault i p d.1 byte q := by
  have own : hostOwned (setReplies (busOf i) [.answer x] s) = hostOwned s := by cases busOf i <;> rfl
  have does := stepOf_does i p (setReplies (busOf i) [.answer x] s)
  rw [h _ own (nextReply_setReplies ..)] at does
  obtain ⟨e, byte, moves, same⟩ := does
  have last := congrArg (fun t => t.history) same
  simp only [stored_history, performed_history, List.append_cancel_left_eq, List.cons.injEq, and_true] at last
  rw [setReplies_params] at moves
  exact ⟨byte, last ▸ moves⟩

theorem Answers.bus {i : Instr} {s : State} {p q : Pos} {x : Answer} {d : Deed} (h : Answers i s p x d q) :
    eventBus d.1 = busOf i := by
  obtain ⟨byte, moves⟩ := h.marker
  exact moves.eventBus

/-! ### What a script leaves -/

/-- RXBUF after these stores. -/
def filed (stores : List (Nat × Byte)) (v : Vector Byte 16) : Vector Byte 16 :=
  stores.foldl (fun v x => v.setIfInBounds x.1 x.2) v

/-- The state after a transaction on bus b has performed these primitives and stands at q: the replies that are left, the line
of its bus as the position says, the bytes received, the events. -/
def played (b : Bus) (q : Pos) (ds : List Deed) (rest : List Reply) (s : State) : State :=
  { setReplies b rest s with
    cs := if b = .spi then csAt q else s.cs
    held := if b = .i2c then heldAt q else s.held
    rxbuf := filed (ds.filterMap (·.2)) s.rxbuf
    history := s.history ++ ds.map (·.1) }

section Played

variable (b : Bus) (q : Pos) (ds : List Deed) (rest : List Reply) (s : State)

@[simp] theorem hostOwned_played : hostOwned (played b q ds rest s) = hostOwned s := by
  cases b <;> rfl

@[simp] theorem busy_played : (played b q ds rest s).busy = s.busy := by
  cases b <;> rfl

@[simp] theorem repliesOf_played : repliesOf b (played b q ds rest s) = rest := by
  cases b <;> rfl

end Played

/-- An event that is not of the SPI bus leaves CS. -/
theorem csAfter_of_eventBus_ne {e : Event} (h : eventBus e ≠ .spi) (c : Bool) : csAfter e c = c := by
  cases e with
  | csAssert | csDeassert => exact absurd rfl h
  | _ => rfl

/-- An event that is not of the I2C bus leaves HELD. -/
theorem heldAfter_of_eventBus_ne {e : Event} (h : eventBus e ≠ .i2c) (c : Bool) : heldAfter e c = c := by
  cases e with
  | i2cStart | i2cStop => exact absurd rfl h
  | _ => rfl

/-- The first primitive sets the line of its bus, whatever it was. -/
theorem Marker.lines_first {nf : Bool} {i : Instr} {e : Event} {byte : Option (Nat × Byte)} {q : Pos}
    (h : Marker nf i .first e byte q) :
    (∀ c, csAfter e c = if Machine.eventBus e = .spi then csAt q else c) ∧
      ∀ c, heldAfter e c = if Machine.eventBus e = .i2c then heldAt q else c := by
  cases h with
  | i2cWriteNack _ nack => simp [writeNacks] at nack
  | i2cReadNack _ nack => simp [readNacks] at nack
  | _ => exact ⟨fun _ => rfl, fun _ => rfl⟩

/-- A primitive with its reply listed, in full. -/
theorem stored_performed {d : Deed} {x : Answer} {rs : List Reply} {s : State}
    (h : repliesOf (eventBus d.1) s = .answer x :: rs) :
    stored d.2 (performed d.1 s) = { setReplies (eventBus d.1) rs s with
      cs := csAfter d.1 s.cs, held := heldAfter d.1 s.held
      rxbuf := filed d.2.toList s.rxbuf
      history := s.history ++ [d.1] } := by
  obtain ⟨e, _ | ⟨j, b⟩⟩ := d
  · simp only [stored, performed, popReply_answer h]
    cases eventBus e <;> rfl
  · simp only [stored, performed, popReply_answer h]
    cases eventBus e <;> rfl

theorem filterMap_snd_singleton (d : Deed) : [d].filterMap (·.2) = d.2.toList := by
  obtain ⟨e, _ | b⟩ := d <;> rfl

theorem filed_append (xs ys : List (Nat × Byte)) (v : Vector Byte 16) : filed (xs ++ ys) v = filed ys (filed xs v) :=
  List.foldl_append

/-- The first primitive of a transaction. -/
theorem Answers.first {i : Instr} {s : State} {q : Pos} {x : Answer} {d : Deed} {rest : List Reply}
    (h : Answers i s .first x d q) (hr : repliesOf (busOf i) s = .answer x :: rest) :
    stored d.2 (performed d.1 s) = played (busOf i) q [d] rest s := by
  obtain ⟨byte, moves⟩ := h.marker
  obtain ⟨cs, held⟩ := moves.lines_first
  rw [← h.bus] at hr ⊢
  rw [stored_performed hr, cs, held, played, filterMap_snd_singleton]
  rfl

/-- The next primitive of a transaction. -/
theorem Answers.next {i : Instr} {s : State} {p q : Pos} {x : Answer} {d : Deed} {ds : List Deed} {rest : List Reply}
    (h : Answers i s p x d q) :
    stored d.2 (performed d.1 (played (busOf i) p ds (.answer x :: rest) s)) = played (busOf i) q (ds ++ [d]) rest s := by
  obtain ⟨byte, moves⟩ := h.marker
  obtain ⟨cs, held⟩ := moves.lines
  have hb := h.bus
  rw [← hb, stored_performed (repliesOf_played ..)]
  simp only [played, List.filterMap_append, filterMap_snd_singleton, filed_append, List.map_append, List.append_assoc]
  have hcs : csAfter d.1 (if eventBus d.1 = .spi then csAt p else s.cs) = if eventBus d.1 = .spi then csAt q else s.cs := by
    split
    · exact cs
    · next h => exact csAfter_of_eventBus_ne h _
  have hheld : heldAfter d.1 (if eventBus d.1 = .i2c then heldAt p else s.held) =
      if eventBus d.1 = .i2c then heldAt q else s.held := by
    split
    · exact held
    · next h => exact heldAfter_of_eventBus_ne h _
  rw [hcs, hheld]
  cases eventBus d.1 <;> rfl

/-! ### Runs -/

/-- Only the sequencer steps, and it runs command i. -/
structure Active (i : Instr) (s : State) : Prop where
  aligned : s.params.aligned = true
  silent : s.agenda = []
  busy : s.busy = true
  decodes : decode s.cur = .ok i

theorem Active.step {i : Instr} {s : State} (h : Active i s) : step s = exec i s :=
  step_exec h.aligned h.silent h.busy h.decodes

theorem active_of_begins {i : Instr} {s : State} (h : begins i s = true) : Active i s := by
  obtain ⟨ha, hg, hb, -, hd⟩ := begins_iff.mp h
  exact ⟨ha, hg, hb, hd⟩

theorem phase_of_begins {i : Instr} {s : State} (h : begins i s = true) : s.phase = .start :=
  (begins_iff.mp h).2.2.2.1

/-- It stays so as long as the command has not completed. -/
theorem Active.of_hostOwned {i : Instr} {s t : State} (h : Active i s) (own : hostOwned t = hostOwned s)
    (busy : t.busy = s.busy) : Active i t where
  aligned := (congrArg (fun o => o.params.aligned) own).trans h.aligned
  silent := (congrArg HostOwned.agenda own).trans h.silent
  busy := busy.trans h.busy
  decodes := (congrArg (fun o => decode o.cur) own).trans h.decodes

/-- Whose transaction runs, and in which phases it stands: a command's own, or the status transaction of a poll's attempt. -/
inductive Inside (s : State) : Instr → Instr → (Pos → Phase) → Prop
  | own {i} : Inside s i i .txn
  | attempt {i j before after} (poll : Polls i before after) (txn : statusTxn s = some j) : Inside s i j .pollAttempt

theorem exec_inside {i j : Instr} {s t u : State} {x : Pos → Phase} {p q : Pos} (h : Inside s i j x)
    (own : hostOwned t = hostOwned s) (he : stepOf j p t = .reached q u) : exec i (goto (x p) t) = .next (goto (x q) u) := by
  cases h with
  | own =>
    rw [exec_txn rfl, stepOf_goto, he]
    rfl
  | attempt poll txn =>
    have txn' : statusTxn (goto (.pollAttempt p) t) = some j :=
      (statusTxn_congr (congrArg HostOwned.pollTxn own) (congrArg HostOwned.i2cDev own)).trans txn
    rw [exec_pollAttempt poll rfl, attemptStep, statusStep_eq txn', stepOf_goto, he]
    rfl

/-- A run of a script, from the state that its first primitives left. -/
theorem run_script {i j : Instr} {s : State} {x : Pos → Phase} {p q : Pos} {xs : List Answer} {ds : List Deed}
    (inside : Inside s i j x) (active : Active i s) (script : Script j s p xs ds q) (done : List Deed) (rest : List Reply)
    (m : Nat) :
    run (xs.length + m) (goto (x p) (played (busOf j) p done (xs.map .answer ++ rest) s)) =
      run m (goto (x q) (played (busOf j) q (done ++ ds) rest s)) := by
  induction script generalizing done with
  | nil => simp
  | @cons p q r y ys d ds first _ ih =>
    have here := first (played (busOf j) p done (.answer y :: (ys.map .answer ++ rest)) s) (hostOwned_played ..)
      (nextReply_cons (repliesOf_played ..))
    rw [first.next] at here
    have active' : Active i (goto (x p) (played (busOf j) p done (.answer y :: (ys.map .answer ++ rest)) s)) :=
      active.of_hostOwned ((hostOwned_goto ..).trans (hostOwned_played ..)) (busy_played _ p done ..)
    have step := active'.step.trans (exec_inside inside (hostOwned_played ..) here)
    rw [List.length_cons, Nat.add_right_comm, List.map_cons, List.cons_append, run_succ step, ih, List.append_assoc]
    rfl

/-- The first step of a transaction: a command performs its first primitive in it, a poll its attempt's. -/
def Begins (i j : Instr) (s : State) (x : Pos → Phase) : Prop :=
  ∀ q t, stepOf j .first s = .reached q t → exec i s = .next (goto (x q) t)

theorem begins_of_enters {i : Instr} {s : State} (h : Enters i s) (hp : s.phase = .start) : Begins i i s .txn := by
  intro q t e
  rw [exec_of_enters h hp, e]
  rfl

/-- A run of a transaction from its first primitive on. -/
theorem run_script_first {i j : Instr} {s : State} {x : Pos → Phase} {q : Pos} {xs : List Answer} {ds : List Deed}
    {rest : List Reply} (begins : Begins i j s x) (inside : Inside s i j x) (active : Active i s)
    (script : Script j s .first xs ds q) (listed : xs ≠ [])
    (replies : repliesOf (busOf j) s = xs.map .answer ++ rest) (m : Nat) :
    run (xs.length + m) s = run m (goto (x q) (played (busOf j) q ds rest s)) := by
  cases script with
  | nil => exact absurd rfl listed
  | @cons p q r y ys d ds first script =>
    have here := first s rfl (nextReply_cons replies)
    rw [first.first replies] at here
    have step := active.step.trans (begins _ _ here)
    rw [List.length_cons, Nat.add_right_comm, run_succ step]
    exact run_script inside active script [d] rest m

/-- At the end of its transaction a command completes. -/
theorem run_completes {i : Instr} {s : State} {q : Pos} {r : Result} (active : Active i s)
    (ended : ∀ t, stepOf i q t = .ended r) (b : Bus) (ds : List Deed) (rest : List Reply) :
    run 1 (goto (.txn q) (played b q ds rest s)) = .next (complete r (played b q ds rest s)) := by
  have active' : Active i (goto (.txn q) (played b q ds rest s)) :=
    active.of_hostOwned ((hostOwned_goto ..).trans (hostOwned_played ..)) (busy_played b q ds ..)
  have step : exec i (goto (.txn q) (played b q ds rest s)) =
      .next (complete r (goto (.txn q) (played b q ds rest s))) := by
    rw [exec_txn rfl, ended]
    rfl
  exact run_succ (active'.step.trans step) 0

/-- A whole command: its transaction, then the completion. -/
theorem run_command {i : Instr} {s : State} {q : Pos} {xs : List Answer} {ds : List Deed} {rest : List Reply} {r : Result}
    (hs : begins i s = true) (enters : Enters i s) (script : Script i s .first xs ds q) (listed : xs ≠ [])
    (ended : ∀ t, stepOf i q t = .ended r) (replies : repliesOf (busOf i) s = xs.map .answer ++ rest) :
    run (xs.length + 1) s = .next (complete r (played (busOf i) q ds rest s)) := by
  have active := active_of_begins hs
  rw [run_script_first (begins_of_enters enters (phase_of_begins hs)) .own active script listed replies]
  exact run_completes active ended _ ds rest

end Sys2Proof.Machine
end

section
/-! The scripts of the transactions: at each position, the primitive that takes place with the answer x (42_i2c.md, 43_spi.md,
41_uart_baud.md). -/

namespace Sys2Proof.Machine

section Reached

variable {s : State} {x : Answer}

theorem i2cStart_reached (h : nextReply .i2c s = .answer x) (q : Pos) :
    i2cStart q s = .reached q (performed .i2cStart s) := by
  rw [i2cStart, onBus_answer h, performed_i2cStart]

theorem i2cRstart_reached (h : nextReply .i2c s = .answer x) (q : Pos) :
    i2cRstart q s = .reached q (performed .i2cRstart s) := by
  rw [i2cRstart, onBus_answer h, performed_eq_record (fun _ => rfl) fun _ => rfl]
  rfl

theorem i2cWrite_reached (h : nextReply .i2c s = .answer x) (b : Byte) (q : Ack → Pos) :
    i2cWrite b q s = .reached (q x.ack) (performed (.i2cWrite b x.ack) s) := by
  rw [i2cWrite, onBus_answer h, performed_eq_record (fun _ => rfl) fun _ => rfl]
  rfl

theorem i2cRead_reached (h : nextReply .i2c s = .answer x) (j : Nat) (last : Bool) (q : Pos) :
    i2cRead j last q s = .reached q (stored (some (j, dataByte x.data)) (performed (.i2cRead last (dataByte x.data)) s)) := by
  rw [i2cRead, onBus_answer h, ← record_storeRx_eq (fun _ => rfl) fun _ => rfl]
  rfl

theorem i2cStop_reached (h : nextReply .i2c s = .answer x) (q : Pos) : i2cStop q s = .reached q (performed .i2cStop s) := by
  rw [i2cStop, onBus_answer h, performed_i2cStop]

theorem csAssert_reached (h : nextReply .spi s = .answer x) (q : Pos) :
    csAssert q s = .reached q (performed .csAssert s) := by
  rw [csAssert, onBus_answer h, performed_csAssert]

theorem csDeassert_reached (h : nextReply .spi s = .answer x) (q : Pos) :
    csDeassert q s = .reached q (performed .csDeassert s) := by
  rw [csDeassert, onBus_answer h, performed_csDeassert]

theorem spiSend_reached (h : nextReply .spi s = .answer x) (b : Byte) (q : Pos) :
    spiSend b q s = .reached q (performed (.spiXfer b (dataByte x.data)) s) := by
  rw [spiSend, onBus_answer h, performed_eq_record (fun _ => rfl) fun _ => rfl]
  rfl

theorem spiReceive_reached (h : nextReply .spi s = .answer x) (j : Nat) (q : Pos) :
    spiReceive j q s =
      .reached q (stored (some (j, dataByte x.data)) (performed (.spiXfer 0x00 (dataByte x.data)) s)) := by
  rw [spiReceive, onBus_answer h, ← record_storeRx_eq (fun _ => rfl) fun _ => rfl]
  rfl

theorem uartReadFlags_reached (h : nextReply .uart s = .answer x) (q : Word → Pos) :
    uartReadFlags q s = .reached (q x.data) (performed (.memRead (uartAddr s.params.uartFrOff s) x.data) s) := by
  rw [uartReadFlags, onBus_answer h, performed_eq_record (fun _ => rfl) fun _ => rfl]
  rfl

theorem uartReceive_reached (h : nextReply .uart s = .answer x) (j : Nat) (q : Pos) :
    uartReceive j q s = .reached q
      (stored (some (j, dataByte x.data)) (performed (.memRead (uartAddr s.params.uartDrOff s) x.data) s)) := by
  rw [uartReceive, onBus_answer h, ← record_storeRx_eq (fun _ => rfl) fun _ => rfl]
  rfl

theorem uartWriteReg_reached (h : nextReply .uart s = .answer x) (off : Nat) (v : Word) (q : Pos) :
    uartWriteReg off v id q s = .reached q (performed (.memWrite (uartAddr off s) v) s) := by
  rw [uartWriteReg, onBus_answer h, performed_eq_record (fun _ => rfl) fun _ => rfl]
  rfl

end Reached

theorem params_eq {s t : State} (own : hostOwned t = hostOwned s) : t.params = s.params := congrArg HostOwned.params own
theorem i2cDev_eq {s t : State} (own : hostOwned t = hostOwned s) : t.i2cDev = s.i2cDev := congrArg HostOwned.i2cDev own
theorem maddr_eq {s t : State} (own : hostOwned t = hostOwned s) : t.maddr = s.maddr := congrArg HostOwned.maddr own

/-- The address of a UART register depends on the parameters alone. -/
theorem uartAddr_eq {s t : State} (own : hostOwned t = hostOwned s) (off : Nat) : uartAddr off t = uartAddr off s := by
  simp [uartAddr, params_eq own]

/-- A transfer whose byte depends on the configuration. -/
theorem answers_spiSend {i : Instr} {s : State} {p q : Pos} {b : Byte} (hi : busOf i = .spi)
    (h : ∀ t, hostOwned t = hostOwned s → stepOf i p t = spiSend b q t) (x : Answer) :
    Answers i s p x (.spiXfer b (dataByte x.data), none) q :=
  fun t own hx => (h t own).trans (spiSend_reached (hi ▸ hx) b q)

/-- The same for a byte written on the I2C bus, at a position without an acknowledge to check. -/
theorem answers_i2cWrite {i : Instr} {s : State} {p : Pos} {q : Ack → Pos} {b : Byte} (hi : busOf i = .i2c)
    (h : ∀ t, hostOwned t = hostOwned s → stepOf i p t = i2cWrite b q t) (x : Answer) :
    Answers i s p x (.i2cWrite b x.ack, none) (q x.ack) :=
  fun t own hx => (h t own).trans (i2cWrite_reached (hi ▸ hx) b q)

/-- The bytes of a read, from position P k on: each answer gives one event, and its byte goes to its place in RXBUF (R46). -/
def received (event : Nat → Answer → Event) (k : Nat) (xs : List Answer) : List Deed :=
  (xs.zipIdx k).map fun x => (event x.2 x.1, some (x.2, dataByte x.1.data))

theorem script_received {i : Instr} {s : State} {P : Nat → Pos} {event : Nat → Answer → Event} {k n : Nat}
    {xs : List Answer}
    (next : ∀ j, k ≤ j → j < n → ∀ x, Answers i s (P j) x (event j x, some (j, dataByte x.data)) (P (j + 1)))
    (hn : k + xs.length ≤ n) : Script i s (P k) xs (received event k xs) (P (k + xs.length)) := by
  induction xs generalizing k with
  | nil => exact .nil
  | cons x xs ih =>
    rw [List.length_cons] at hn ⊢
    have tail := ih (k := k + 1) (fun j hj => next j (by omega)) (by omega)
    rw [show k + 1 + xs.length = k + (xs.length + 1) by omega] at tail
    exact .cons (next k le_rfl (by omega) x) tail

/-! ### SPI -/

section Spi

variable (s : State) (instr d8 : Byte)

theorem script_spiWrite (a b c d e f : Answer) :
    Script (.spiWrite instr d8) s .first [a, b, c, d, e, f]
      [(.csAssert, none), (.spiXfer instr (dataByte b.data), none), (.spiXfer (highByte s.maddr) (dataByte c.data), none),
       (.spiXfer (lowByte s.maddr) (dataByte d.data), none), (.spiXfer d8 (dataByte e.data), none), (.csDeassert, none)]
      (.ended .ok) :=
  .cons (fun _ _ h => csAssert_reached h .spiInstr) <|
  .cons (answers_spiSend (q := .spiAddrHigh) rfl (fun _ _ => rfl) b) <|
  .cons (answers_spiSend (q := .spiAddrLow) rfl (fun _ own => by rw [← maddr_eq own]; rfl) c) <|
  .cons (answers_spiSend (q := .spiData) rfl (fun _ own => by rw [← maddr_eq own]; rfl) d) <|
  .cons (answers_spiSend (q := .spiRelease) rfl (fun _ _ => rfl) e) <|
  .cons (fun _ _ h => csDeassert_reached h (.ended .ok)) .nil

theorem script_spiCmd (a b c : Answer) :
    Script (.spiCmd instr) s .first [a, b, c] [(.csAssert, none), (.spiXfer instr (dataByte b.data), none), (.csDeassert, none)]
      (.ended .ok) :=
  .cons (fun _ _ h => csAssert_reached h .spiInstr) <|
  .cons (answers_spiSend (q := .spiRelease) rfl (fun _ _ => rfl) b) <|
  .cons (fun _ _ h => csDeassert_reached h (.ended .ok)) .nil

/-- The data of a read and the end of its frame (R208, R214). -/
theorem script_spiBytes {i : Instr} {len : Nat} (hi : busOf i = .spi)
    (h : ∀ j t, stepOf i (.spiByte j) t = spiReadNext len j t) {bytes : List Answer} (hl : bytes.length = len) (z : Answer) :
    Script i s (.spiByte 0) (bytes ++ [z])
      (received (fun _ y => .spiXfer 0x00 (dataByte y.data)) 0 bytes ++ [(.csDeassert, none)]) (.ended .ok) := by
  have data : Script i s (.spiByte 0) bytes (received (fun _ y => .spiXfer 0x00 (dataByte y.data)) 0 bytes)
      (.spiByte (0 + bytes.length)) := by
    refine script_received (P := .spiByte) (n := len) (fun j _ hj x t _ hx => ?_) (by omega)
    rw [h, spiReadNext, if_pos hj]
    exact spiReceive_reached (hi ▸ hx) j _
  refine data.snoc fun t _ hx => ?_
  rw [h, spiReadNext, if_neg (by omega)]
  exact csDeassert_reached (hi ▸ hx) _

theorem script_spiRead {len : Nat} (a b c d : Answer) {bytes : List Answer} (hl : bytes.length = len) (z : Answer) :
    Script (.spiRead instr len) s .first (a :: b :: c :: d :: (bytes ++ [z]))
      ((.csAssert, none) :: (.spiXfer instr (dataByte b.data), none) :: (.spiXfer (highByte s.maddr) (dataByte c.data), none) ::
        (.spiXfer (lowByte s.maddr) (dataByte d.data), none) ::
        (received (fun _ y => .spiXfer 0x00 (dataByte y.data)) 0 bytes ++ [(.csDeassert, none)]))
      (.ended .ok) :=
  .cons (fun _ _ h => csAssert_reached h .spiInstr) <|
  .cons (answers_spiSend (q := .spiAddrHigh) rfl (fun _ _ => rfl) b) <|
  .cons (answers_spiSend (q := .spiAddrLow) rfl (fun _ own => by rw [← maddr_eq own]; rfl) c) <|
  .cons (answers_spiSend (q := .spiByte 0) rfl (fun _ own => by rw [← maddr_eq own]; rfl) d) <|
  script_spiBytes s rfl (fun _ _ => rfl) hl z

theorem script_spiCmdr {len : Nat} (a b : Answer) {bytes : List Answer} (hl : bytes.length = len) (z : Answer) :
    Script (.spiCmdr instr len) s .first (a :: b :: (bytes ++ [z]))
      ((.csAssert, none) :: (.spiXfer instr (dataByte b.data), none) ::
        (received (fun _ y => .spiXfer 0x00 (dataByte y.data)) 0 bytes ++ [(.csDeassert, none)]))
      (.ended .ok) :=
  .cons (fun _ _ h => csAssert_reached h .spiInstr) <|
  .cons (answers_spiSend (q := .spiByte 0) rfl (fun _ _ => rfl) b) <|
  script_spiBytes s rfl (fun _ _ => rfl) hl z

end Spi

/-! ### I2C -/

section I2c

variable (s : State) (reg d8 : Byte) (len : Nat)

/-- An acknowledge with which the command goes on (R182). -/
def Passes (s : State) (a : Answer) : Prop := s.params.nackIsFault = false ∨ a.ack = .ack

theorem Passes.checkAck {s t : State} {a : Answer} (h : Passes s a) (own : hostOwned t = hostOwned s) (g : Progress) :
    checkAck a.ack t g = g :=
  checkAck_passes (by rwa [params_eq own]) g

/-- The STOP after a NACK that is a fault (R182, R189). -/
theorem checkAck_reached {s t : State} {a x : Answer} (fault : s.params.nackIsFault = true) (nack : a.ack = .nack)
    (own : hostOwned t = hostOwned s) (h : nextReply .i2c t = .answer x) (g : Progress) :
    checkAck a.ack t g = .reached (.ended .busFault) (performed .i2cStop t) := by
  rw [nack, checkAck_fails (by rwa [params_eq own])]
  exact i2cStop_reached h _

theorem answers_i2cWrite_register {a : Answer} (h : Passes s a) (x : Answer) :
    Answers (.i2cWrite reg d8) s (.i2cRegister a.ack) x (.i2cWrite reg x.ack, none) (.i2cData x.ack) :=
  answers_i2cWrite (q := .i2cData) rfl (fun _ own => by exact h.checkAck own _) x

theorem answers_i2cWrite_data {a : Answer} (h : Passes s a) (x : Answer) :
    Answers (.i2cWrite reg d8) s (.i2cData a.ack) x (.i2cWrite d8 x.ack, none) (.i2cWritten x.ack) :=
  answers_i2cWrite (q := .i2cWritten) rfl (fun _ own => by exact h.checkAck own _) x

theorem script_i2cWrite_address (a b : Answer) :
    Script (.i2cWrite reg d8) s .first [a, b] [(.i2cStart, none), (.i2cWrite (addressWrite s.i2cDev) b.ack, none)]
      (.i2cRegister b.ack) :=
  .cons (fun _ _ h => i2cStart_reached h .i2cAddress) <|
  .cons (answers_i2cWrite (q := .i2cRegister) rfl (fun _ own => by rw [← i2cDev_eq own]; rfl) b) .nil

theorem script_i2cRead_address (a b : Answer) :
    Script (.i2cRead reg len) s .first [a, b] [(.i2cStart, none), (.i2cWrite (addressWrite s.i2cDev) b.ack, none)]
      (.i2cRegister b.ack) :=
  .cons (fun _ _ h => i2cStart_reached h .i2cAddress) <|
  .cons (answers_i2cWrite (q := .i2cRegister) rfl (fun _ own => by rw [← i2cDev_eq own]; rfl) b) .nil

theorem answers_i2cRead_register {a : Answer} (h : Passes s a) (x : Answer) :
    Answers (.i2cRead reg len) s (.i2cRegister a.ack) x (.i2cWrite reg x.ack, none) (.i2cRestart x.ack) :=
  answers_i2cWrite (q := .i2cRestart) rfl (fun _ own => by exact h.checkAck own _) x

/-- The repeated START and the read address (R188). -/
theorem script_i2cRead_restart {a : Answer} (h : Passes s a) (x y : Answer) :
    Script (.i2cRead reg len) s (.i2cRestart a.ack) [x, y]
      [(.i2cRstart, none), (.i2cWrite (addressRead s.i2cDev) y.ack, none)] (.i2cReadFirst y.ack) :=
  .cons (fun _ own hx => (h.checkAck own _).trans (i2cRstart_reached hx .i2cReadAddress)) <|
  .cons (answers_i2cWrite (q := .i2cReadFirst) rfl (fun _ own => by rw [← i2cDev_eq own]; rfl) y) .nil

/-- The data of the read and its STOP (R188). -/
theorem script_i2cBytes {len : Nat} {a : Answer} (h : Passes s a) {bytes : List Answer} (hl : bytes.length = len)
    (more : 1 ≤ len) (z : Answer) :
    Script (.i2cRead reg len) s (.i2cReadFirst a.ack) (bytes ++ [z])
      (received (fun j y => .i2cRead (j + 1 == len) (dataByte y.data)) 0 bytes ++ [(.i2cStop, none)]) (.ended .ok) := by
  obtain _ | ⟨y, bytes⟩ := bytes
  · simp at hl
    omega
  rw [List.length_cons] at hl
  have first : Answers (.i2cRead reg len) s (.i2cReadFirst a.ack) y
      (.i2cRead (0 + 1 == len) (dataByte y.data), some (0, dataByte y.data)) (.i2cByte 1) := fun t own hx =>
    (h.checkAck own _).trans <| (if_pos more).trans (i2cRead_reached hx 0 _ _)
  have data : Script (.i2cRead reg len) s (.i2cByte 1) bytes
      (received (fun j y => .i2cRead (j + 1 == len) (dataByte y.data)) 1 bytes) (.i2cByte (1 + bytes.length)) :=
    script_received (P := .i2cByte) (n := len)
      (fun j _ hj x t _ hx => (if_pos hj).trans (i2cRead_reached hx j _ _)) (by omega)
  refine .cons first (data.snoc fun t _ hx => ?_)
  exact (if_neg (by omega)).trans (i2cStop_reached hx _)

/-- The whole frame of I2C.WRITE (R185). -/
theorem script_i2cWrite {a b c : Answer} (st : Answer) (ha : Passes s a) (hb : Passes s b) (hc : Passes s c) (sp : Answer) :
    Script (.i2cWrite reg d8) s .first [st, a, b, c, sp]
      [(.i2cStart, none), (.i2cWrite (addressWrite s.i2cDev) a.ack, none), (.i2cWrite reg b.ack, none),
       (.i2cWrite d8 c.ack, none), (.i2cStop, none)]
      (.ended .ok) :=
  (script_i2cWrite_address s reg d8 st a).append <|
  .cons (answers_i2cWrite_register s reg d8 ha b) <|
  .cons (answers_i2cWrite_data s reg d8 hb c) <|
  .cons (fun _ own hx => (hc.checkAck own _).trans (i2cStop_reached hx (.ended .ok))) .nil

/-- The whole frame of I2C.READ (R188). -/
theorem script_i2cRead {len : Nat} {a b c : Answer} (st rs : Answer) (ha : Passes s a) (hb : Passes s b) (hc : Passes s c)
    {bytes : List Answer} (hl : bytes.length = len) (more : 1 ≤ len) (sp : Answer) :
    Script (.i2cRead reg len) s .first ([st, a, b, rs, c] ++ (bytes ++ [sp]))
      ([(.i2cStart, none), (.i2cWrite (addressWrite s.i2cDev) a.ack, none), (.i2cWrite reg b.ack, none), (.i2cRstart, none),
        (.i2cWrite (addressRead s.i2cDev) c.ack, none)] ++
        (received (fun j y => .i2cRead (j + 1 == len) (dataByte y.data)) 0 bytes ++ [(.i2cStop, none)]))
      (.ended .ok) :=
  (script_i2cRead_address s reg len st a).append <|
  .cons (answers_i2cRead_register s reg len ha b) <|
  (script_i2cRead_restart s reg len hb rs c).append <|
  script_i2cBytes s reg hc hl more sp

/-- I2C.READ with a NACK on the first written byte and NACK_IS_FAULT: STOP, then BUS_FAULT (R182, R189). -/
theorem script_i2cRead_nack1 {a : Answer} (fault : s.params.nackIsFault = true) (ha : a.ack = .nack) (st sp : Answer) :
    Script (.i2cRead reg len) s .first [st, a, sp]
      [(.i2cStart, none), (.i2cWrite (addressWrite s.i2cDev) a.ack, none), (.i2cStop, none)] (.ended .busFault) :=
  (script_i2cRead_address s reg len st a).snoc fun _ own hx => checkAck_reached fault ha own hx _

/-- The same with the NACK on the second. -/
theorem script_i2cRead_nack2 {a b : Answer} (fault : s.params.nackIsFault = true) (ha : Passes s a) (hb : b.ack = .nack)
    (st sp : Answer) :
    Script (.i2cRead reg len) s .first [st, a, b, sp]
      [(.i2cStart, none), (.i2cWrite (addressWrite s.i2cDev) a.ack, none), (.i2cWrite reg b.ack, none), (.i2cStop, none)]
      (.ended .busFault) :=
  (script_i2cRead_address s reg len st a).append <|
  .cons (answers_i2cRead_register s reg len ha b) <|
  .cons (fun _ own hx => checkAck_reached fault hb own hx _) .nil

/-- The same with the NACK on the third. -/
theorem script_i2cRead_nack3 {a b c : Answer} (fault : s.params.nackIsFault = true) (ha : Passes s a) (hb : Passes s b)
    (hc : c.ack = .nack) (st rs sp : Answer) :
    Script (.i2cRead reg len) s .first [st, a, b, rs, c, sp]
      [(.i2cStart, none), (.i2cWrite (addressWrite s.i2cDev) a.ack, none), (.i2cWrite reg b.ack, none), (.i2cRstart, none),
       (.i2cWrite (addressRead s.i2cDev) c.ack, none), (.i2cStop, none)]
      (.ended .busFault) :=
  (script_i2cRead_address s reg len st a).append <|
  .cons (answers_i2cRead_register s reg len ha b) <|
  (script_i2cRead_restart s reg len hb rs c).append <|
  .cons (fun _ own hx => checkAck_reached fault hc own hx _) .nil

end I2c

/-! ### UART -/

section Uart

variable (s : State) (i : Instr)

/-- A flag read that answers x. -/
def flagRead (x : Answer) : Deed := (.memRead (uartAddr s.params.uartFrOff s) x.data, none)

/-- At p the next primitive is a flag read, which leads to P of its answer. -/
def ReadsFlags (p : Pos) (P : Word → Pos) : Prop := ∀ x, Answers i s p x (flagRead s x) (P x.data)

variable {s i}

theorem readsFlags {p : Pos} {P : Word → Pos} (hi : busOf i = .uart)
    (h : ∀ t, hostOwned t = hostOwned s → stepOf i p t = uartReadFlags P t) : ReadsFlags s i p P := by
  intro x t own hx
  rw [h t own, uartReadFlags_reached (hi ▸ hx), params_eq own, uartAddr_eq own]
  rfl

/-- While the answer says so, the flags are read again (R160, R165). -/
theorem script_flags {p : Pos} {P : Word → Pos} {again : Answer → Prop} {xs : List Answer} (h : ReadsFlags s i p P)
    (loop : ∀ x, again x → ReadsFlags s i (P x.data) P) (hx : ∀ x ∈ xs, again x) :
    ∃ q, ReadsFlags s i q P ∧ Script i s p xs (xs.map (flagRead s)) q := by
  induction xs generalizing p with
  | nil => exact ⟨p, h, .nil⟩
  | cons x xs ih =>
    obtain ⟨q, hq, script⟩ := ih (loop x (hx x (by simp))) fun y hy => hx y (by simp [hy])
    exact ⟨q, hq, .cons (h x) script⟩

theorem readsFlags_uartTx (d8 : Byte) {x : Answer} (full : x.data.getLsbD s.params.frTxffBit = true) :
    ReadsFlags s (.uartWrite d8) (.uartTx x.data) .uartTx :=
  readsFlags rfl fun _ own => if_pos (by rwa [params_eq own])

theorem readsFlags_uartRx (len j : Nat) {x : Answer} (empty : x.data.getLsbD s.params.frRxfeBit = true) :
    ReadsFlags s (.uartRead len) (.uartRx j x.data) (.uartRx j) :=
  readsFlags rfl fun _ own => if_pos (by rwa [params_eq own])

theorem script_uartWrite (d8 : Byte) {full : List Answer} {clear : Answer}
    (hf : ∀ a ∈ full, a.data.getLsbD s.params.frTxffBit = true) (hc : clear.data.getLsbD s.params.frTxffBit = false)
    (w : Answer) :
    Script (.uartWrite d8) s .first (full ++ [clear] ++ [w])
      ((full ++ [clear]).map (flagRead s) ++ [(.memWrite (uartAddr s.params.uartDrOff s) (d8.setWidth 32), none)])
      (.ended .ok) := by
  obtain ⟨q, hq, flags⟩ := script_flags (s := s) (i := .uartWrite d8) (p := .first) (readsFlags rfl fun _ _ => rfl)
    (fun _ => readsFlags_uartTx d8) hf
  rw [List.map_append]
  refine (flags.snoc (hq clear)).snoc fun t own hx => ?_
  have write : stepOf (.uartWrite d8) (.uartTx clear.data) t =
      uartWriteReg t.params.uartDrOff (d8.setWidth 32) id (.ended .ok) t :=
    if_neg (by rw [params_eq own, hc]; simp)
  rw [write, uartWriteReg_reached hx, params_eq own, uartAddr_eq own]
  rfl

/-- The writes of UART.INIT after its first (R155). -/
theorem script_uartInit (s : State) (f : BitVec 6) (b c d : Answer) :
    Script .uartInit s (.uartFbrd f) [b, c, d]
      [(.memWrite (uartAddr s.params.uartFbrdOff s) (f.setWidth 32), none),
       (.memWrite (uartAddr s.params.uartLcrOff s) s.uartLcr, none), (.memWrite (uartAddr s.params.uartCrOff s) s.uartCr, none)]
      (.ended .ok) := by
  have write {p q : Pos} {off : Nat} {v : Word}
      (h : ∀ t, hostOwned t = hostOwned s → stepOf .uartInit p t = uartWriteReg off v id q t) (x : Answer) : Answers .uartInit s p x (.memWrite (uartAddr off s) v, none) q := fun t own hx => by
    rw [h t own, uartWriteReg_reached hx, uartAddr_eq own]
    rfl
  refine .cons (write (q := .uartLcr) (fun t own => ?_) b) <| .cons (write (q := .uartCr) (fun t own => ?_) c) <|
    .cons (write (q := .ended .ok) (fun t own => ?_) d) .nil
  · rw [← params_eq own]
    rfl
  · rw [← params_eq own, show s.uartLcr = t.uartLcr from (congrArg HostOwned.uartLcr own).symm]
    rfl
  · rw [← params_eq own, show s.uartCr = t.uartCr from (congrArg HostOwned.uartCr own).symm]
    rfl

/-- The UART's answers for one byte: RX-empty = 1 on any number of flag reads, then RX-empty = 0, then the data word (R165). -/
def Receives (s : State) (b : List Answer × Answer × Answer) : Prop :=
  (∀ a ∈ b.1, a.data.getLsbD s.params.frRxfeBit = true) ∧ b.2.1.data.getLsbD s.params.frRxfeBit = false

/-- What byte j of a UART.READ takes. -/
def uartByte (s : State) (j : Nat) (b : List Answer × Answer × Answer) : List Deed :=
  (b.1 ++ [b.2.1]).map (flagRead s) ++
    [(.memRead (uartAddr s.params.uartDrOff s) b.2.2.data, some (j, dataByte b.2.2.data))]

theorem script_uartByte {len j : Nat} {p : Pos} (h : ReadsFlags s (.uartRead len) p (.uartRx j))
    {b : List Answer × Answer × Answer} (hb : Receives s b) :
    Script (.uartRead len) s p (b.1 ++ [b.2.1, b.2.2]) (uartByte s j b) (.uartNext (j + 1)) := by
  obtain ⟨empty, clear⟩ := hb
  obtain ⟨q, hq, flags⟩ := script_flags h (fun _ => readsFlags_uartRx len j) empty
  rw [uartByte, List.map_append, show [b.2.1, b.2.2] = [b.2.1] ++ [b.2.2] from rfl, ← List.append_assoc]
  refine (flags.snoc (hq _)).snoc fun t own hx => ?_
  have read : stepOf (.uartRead len) (.uartRx j b.2.1.data) t = uartReceive j (.uartNext (j + 1)) t :=
    if_neg (by rw [params_eq own, clear]; simp)
  rw [read, uartReceive_reached hx, params_eq own, uartAddr_eq own]

/-- What the bytes of a UART.READ take, from byte k on. -/
def uartBytes (s : State) (k : Nat) (bytes : List (List Answer × Answer × Answer)) : List Deed :=
  (bytes.zipIdx k).flatMap fun b => uartByte s b.2 b.1

theorem script_uartNext {len j : Nat} {bytes : List (List Answer × Answer × Answer)} (hb : ∀ b ∈ bytes, Receives s b)
    (hl : j + bytes.length ≤ len) :
    Script (.uartRead len) s (.uartNext j) (bytes.flatMap fun b => b.1 ++ [b.2.1, b.2.2]) (uartBytes s j bytes)
      (.uartNext (j + bytes.length)) := by
  induction bytes generalizing j with
  | nil => exact .nil
  | cons b bytes ih =>
    rw [List.length_cons] at hl ⊢
    have tail := ih (j := j + 1) (fun y hy => hb y (by simp [hy])) (by omega)
    rw [show j + 1 + bytes.length = j + (bytes.length + 1) by omega] at tail
    refine (script_uartByte (readsFlags rfl fun _ _ => ?_) (hb b (by simp))).append tail
    exact if_pos (by omega)

theorem script_uartRead {len : Nat} {bytes : List (List Answer × Answer × Answer)} (hb : ∀ b ∈ bytes, Receives s b)
    (hl : bytes.length = len) (more : 1 ≤ len) :
    Script (.uartRead len) s .first (bytes.flatMap fun b => b.1 ++ [b.2.1, b.2.2]) (uartBytes s 0 bytes) (.uartNext len) := by
  obtain _ | ⟨b, bytes⟩ := bytes
  · simp at hl
    omega
  rw [List.length_cons] at hl
  have tail := script_uartNext (s := s) (len := len) (j := 1) (bytes := bytes) (fun y hy => hb y (by simp [hy])) (by omega)
  rw [show 1 + bytes.length = len by omega] at tail
  exact (script_uartByte (readsFlags rfl fun _ _ => rfl) (hb b (by simp))).append tail

end Uart

end Sys2Proof.Machine
end

section
/-! RXBUF after a read: the bytes stand in receive order (R46). -/

namespace Sys2Proof.Machine

/-- The stores of the bytes of a read, from RXBUF[k] on. -/
def storesOf (k : Nat) (xs : List Answer) : List (Nat × Byte) := (xs.zipIdx k).map fun x => (x.2, dataByte x.1.data)

@[simp] theorem stores_received (event : Nat → Answer → Event) (k : Nat) (xs : List Answer) :
    (received event k xs).filterMap (·.2) = storesOf k xs := by
  simp [received, storesOf, List.filterMap_map]

theorem events_received (event : Nat → Answer → Event) (k : Nat) (xs : List Answer) :
    (received event k xs).map (·.1) = (xs.zipIdx k).map fun x => event x.2 x.1 := by
  simp [received, Function.comp_def]

/-- Where the events do not depend on the place of their byte. -/
theorem events_received_const (event : Answer → Event) (k : Nat) (xs : List Answer) :
    (received (fun _ => event) k xs).map (·.1) = xs.map event := by
  rw [events_received]
  exact (List.map_map (f := Prod.fst) (g := event)).symm.trans (by rw [List.zipIdx_map_fst])

@[simp] theorem stores_flags (s : State) (xs : List Answer) : (xs.map (flagRead s)).filterMap (·.2) = [] := by
  simp [flagRead]

@[simp] theorem stores_uartBytes (s : State) (k : Nat) (bytes : List (List Answer × Answer × Answer)) :
    (uartBytes s k bytes).filterMap (·.2) = storesOf k (bytes.map fun b => b.2.2) := by
  induction bytes generalizing k with
  | nil => rfl
  | cons b bytes ih =>
    have ih := ih (k + 1)
    simp_all [uartBytes, uartByte, storesOf, flagRead]

@[simp] theorem events_uartBytes (s : State) (k : Nat) (bytes : List (List Answer × Answer × Answer)) :
    (uartBytes s k bytes).map (·.1) = bytes.flatMap fun b =>
      (b.1 ++ [b.2.1]).map (fun a => .memRead (uartAddr s.params.uartFrOff s) a.data) ++
        [.memRead (uartAddr s.params.uartDrOff s) b.2.2.data] := by
  induction bytes generalizing k with
  | nil => rfl
  | cons b bytes ih =>
    have ih := ih (k + 1)
    simp_all [uartBytes, uartByte, flagRead, Function.comp_def]

theorem getD_setIfInBounds {v : Vector Byte 16} {i j : Nat} {b : Byte} :
    (v.setIfInBounds i b).getD j 0 = if i = j ∧ j < 16 then b else v.getD j 0 := by
  unfold Vector.getD
  by_cases hj : j < 16
  · by_cases h : i = j
    · subst h
      simp [hj]
    · simp [hj, h]
  · simp [hj]

theorem filed_storesOf_outside {k j : Nat} {xs : List Answer} (v : Vector Byte 16) (h : j < k ∨ k + xs.length ≤ j) :
    (filed (storesOf k xs) v).getD j 0 = v.getD j 0 := by
  induction xs generalizing k v with
  | nil => rfl
  | cons x xs ih =>
    rw [List.length_cons] at h
    have tail := ih (k := k + 1) (v.setIfInBounds k (dataByte x.data)) (by omega)
    rw [getD_setIfInBounds, if_neg (by omega)] at tail
    exact tail

theorem filed_storesOf_inside {k j : Nat} {xs : List Answer} {x : Answer} (v : Vector Byte 16) (h : xs[j]? = some x)
    (hk : k + j < 16) : (filed (storesOf k xs) v).getD (k + j) 0 = dataByte x.data := by
  induction xs generalizing k j v with
  | nil => simp at h
  | cons y xs ih =>
    cases j with
    | zero =>
      obtain rfl : y = x := by simpa using h
      have tail := filed_storesOf_outside (k := k + 1) (j := k) (xs := xs) (v.setIfInBounds k (dataByte y.data)) (by omega)
      rw [getD_setIfInBounds, if_pos (by omega)] at tail
      exact tail
    | succ j =>
      have tail := ih (k := k + 1) (v.setIfInBounds k (dataByte y.data)) (by simpa using h) (by omega)
      rw [show k + 1 + j = k + (j + 1) by omega] at tail
      exact tail

/-- RXBUF after a read of len bytes. -/
theorem rxByte_of_stores {s t : State} {xs : List Answer} {len : Nat} (h : t.rxbuf = filed (storesOf 0 xs) s.rxbuf)
    (hl : xs.length = len) (h16 : len ≤ 16) :
    (∀ j x, xs[j]? = some x → rxByte t j = x.data.extractLsb' 0 8) ∧ ∀ j, len ≤ j → rxByte t j = rxByte s j := by
  unfold rxByte
  rw [h]
  refine ⟨fun j x hx => ?_, fun j hj => filed_storesOf_outside s.rxbuf (by omega)⟩
  obtain ⟨hj, -⟩ := List.getElem?_eq_some_iff.mp hx
  have inside := filed_storesOf_inside (k := 0) s.rxbuf hx (by omega)
  rwa [Nat.zero_add] at inside

end Sys2Proof.Machine
end

section
/-! The obligations about whole runs of the bus commands, of 41_uart_baud.md, 42_i2c.md and 43_spi.md: each is the script of its
transaction. -/

namespace Sys2Proof.Machine

/-- The end of a command: both lines are inactive again where its bus drives them. -/
theorem complete_played {q : Pos} (hc : csAt q = false) (hh : heldAt q = false) (b : Bus) (r : Result) (ds : List Deed)
    (rest : List Reply) (s : State) :
    complete r (played b q ds rest s) = { completed r (setReplies b rest s) with
      cs := if b = .spi then false else s.cs, held := if b = .i2c then false else s.held
      rxbuf := filed (ds.filterMap (·.2)) s.rxbuf, history := s.history ++ ds.map (·.1) } := by
  rw [played, hc, hh]
  rfl

/-- A whole command that receives no byte: its events, and nothing else changed. -/
theorem run_transfer {i : Instr} {s : State} {q : Pos} {r : Result} {xs : List Answer} {ds : List Deed} {rest : List Reply}
    (hs : begins i s = true) (enters : Enters i s) (script : Script i s .first xs ds q) (listed : xs ≠ [])
    (ended : ∀ t, stepOf i q t = .ended r) (replies : repliesOf (busOf i) s = xs.map .answer ++ rest)
    (hc : csAt q = false) (hh : heldAt q = false) (none : ds.filterMap (·.2) = []) :
    run (xs.length + 1) s = .next { completed r (setReplies (busOf i) rest s) with
      cs := if busOf i = .spi then false else s.cs, held := if busOf i = .i2c then false else s.held
      rxbuf := s.rxbuf, history := s.history ++ ds.map (·.1) } := by
  rw [run_command hs enters script listed ended replies, complete_played hc hh, none]
  rfl

/-- Settles O42: the two scripts. -/
theorem spiWriteAndCmdRunInOneFrame : Obligations.SpiWriteAndCmdRunInOneFrame := by
  refine ⟨fun instr d8 s a b c d e f rest hs hr => ?_, fun instr s a b c rest hs hr => ?_⟩
  · exact run_command hs ⟨rfl, by simp [busOf]⟩ (script_spiWrite s instr d8 a b c d e f) (by simp) (fun _ => rfl) hr
  · exact run_command hs ⟨rfl, by simp [busOf]⟩ (script_spiCmd s instr a b c) (by simp) (fun _ => rfl) hr

/-- A whole read of len bytes: its events, its bytes in RXBUF, and nothing else changed. -/
theorem run_read {i : Instr} {s : State} {q : Pos} {xs ys : List Answer} {ds : List Deed} {rest : List Reply} {len : Nat}
    (hs : begins i s = true) (enters : Enters i s) (script : Script i s .first xs ds q) (listed : xs ≠ [])
    (ended : ∀ t, stepOf i q t = .ended .ok) (replies : repliesOf (busOf i) s = xs.map .answer ++ rest)
    (hc : csAt q = false) (hh : heldAt q = false) (stores : ds.filterMap (·.2) = storesOf 0 ys) (hl : ys.length = len)
    (h16 : len ≤ 16) :
    ∃ t, run (xs.length + 1) s = .next t ∧
      t = { completed .ok (setReplies (busOf i) rest s) with
        cs := if busOf i = .spi then false else s.cs, held := if busOf i = .i2c then false else s.held
        rxbuf := t.rxbuf, history := s.history ++ ds.map (·.1) } ∧
      (∀ j x, ys[j]? = some x → rxByte t j = x.data.extractLsb' 0 8) ∧ ∀ j, len ≤ j → rxByte t j = rxByte s j := by
  have run := run_command hs enters script listed ended replies
  rw [complete_played hc hh, stores] at run
  exact ⟨_, run, rfl, rxByte_of_stores rfl hl h16⟩

/-- Settles O43: the two scripts, and what they leave in RXBUF. -/
theorem spiReadsRunInOneFrame : Obligations.SpiReadsRunInOneFrame := by
  intro instr len s i header a z heads bytes rest hi hs h1 h16 hh hb hr
  have valid : lenValid len = true := lenValid_iff.mpr ⟨h1, h16⟩
  obtain ⟨rfl, rfl⟩ | ⟨rfl, rfl⟩ := hi
  · obtain ⟨b, c, d, rfl⟩ := List.length_eq_three.mp hh
    obtain ⟨t, run, shape, bytesIn⟩ := run_read hs ⟨valid, by simp [busOf]⟩ (script_spiRead s instr a b c d hb z) (by simp)
      (fun _ => rfl) (rest := rest) (by simpa [repliesOf, busOf] using hr) rfl rfl (ys := bytes) (by simp) hb h16
    refine ⟨t, ?_, shape.trans ?_, bytesIn⟩
    · simpa [hb, Nat.add_comm, Nat.add_left_comm, Nat.add_assoc] using run
    · simp [busOf, setReplies, completed, events_received_const]
  · obtain ⟨b, rfl⟩ := List.length_eq_one_iff.mp hh
    obtain ⟨t, run, shape, bytesIn⟩ := run_read hs ⟨valid, by simp [busOf]⟩ (script_spiCmdr s instr a b hb z) (by simp)
      (fun _ => rfl) (rest := rest) (by simpa [repliesOf, busOf] using hr) rfl rfl (ys := bytes) (by simp) hb h16
    refine ⟨t, ?_, shape.trans ?_, bytesIn⟩
    · simpa [hb, Nat.add_comm, Nat.add_left_comm, Nat.add_assoc] using run
    · simp [busOf, setReplies, completed, events_received_const]

/-- Settles O31: its script, with the flag reads as a list. -/
theorem uartWriteTakesFlagReadsPlusTwoSteps : Obligations.UartWriteTakesFlagReadsPlusTwoSteps := by
  intro d8 s full clear w rest hs hf hc hr
  have run := run_transfer hs ⟨rfl, by simp [busOf]⟩ (script_uartWrite d8 hf hc w) (by simp) (fun _ => rfl)
    (rest := rest) (by simpa [repliesOf, busOf] using hr) rfl rfl (by simp [flagRead])
  simpa [flagRead, Function.comp_def, busOf, setReplies, completed] using run

/-- Settles O32: the flag reads of the script, for as many of the answers as one likes. -/
theorem uartWriteHangsWhileTheUartIsFull : Obligations.UartWriteHangsWhileTheUartIsFull := by
  intro d8 s full rest hs hf hr n hn
  have active := active_of_begins hs
  obtain ⟨q, -, script⟩ := script_flags (s := s) (i := .uartWrite d8) (p := .first) (readsFlags rfl fun _ _ => rfl)
    (fun _ => readsFlags_uartTx d8) fun a (ha : a ∈ full.take n) => hf a (List.mem_of_mem_take ha)
  obtain rfl | hn0 := Nat.eq_zero_or_pos n
  · exact ⟨s, rfl, active.busy, by simp⟩
  · have listed : full.take n ≠ [] := by
      rw [← List.length_pos_iff, List.length_take]
      omega
    have run := run_script_first (begins_of_enters ⟨rfl, by simp [busOf]⟩ (phase_of_begins hs)) .own active script listed
      (rest := (full.drop n).map .answer ++ rest) (by
        rw [← List.append_assoc, ← List.map_append, List.take_append_drop]; exact hr) 0
    rw [List.length_take, Nat.min_eq_left hn] at run
    refine ⟨_, run, active.busy, ?_⟩
    simp [played, flagRead, Function.comp_def]

/-- Settles O34: its script, and what it leaves in RXBUF. -/
theorem uartReadFillsRxbuf : Obligations.UartReadFillsRxbuf := by
  intro len s bytes rest hs h1 h16 hl hb hr
  have valid : lenValid len = true := lenValid_iff.mpr ⟨h1, h16⟩
  have ended : ∀ t, stepOf (.uartRead len) (.uartNext len) t = .ended .ok := fun t => if_neg (lt_irrefl len)
  have listed : (bytes.flatMap fun b => b.1 ++ [b.2.1, b.2.2]) ≠ [] := by
    obtain _ | ⟨b, bytes⟩ := bytes
    · simp at hl
      omega
    · simp
  have steps : (bytes.map fun p => (p.1.length + 1) + 1).sum = (bytes.flatMap fun b => b.1 ++ [b.2.1, b.2.2]).length := by
    simp [List.length_flatMap]
    omega
  obtain ⟨t, run, shape, inside, outside⟩ := run_read hs ⟨valid, by simp [busOf]⟩ (script_uartRead hb hl h1) listed ended
    (rest := rest) (by simpa [repliesOf, busOf] using hr) rfl rfl (stores_uartBytes s 0 bytes) (by simpa using hl) h16
  refine ⟨t, by rw [steps]; exact run, shape.trans ?_, fun i p hp => inside i _ (by simp [hp]), outside⟩
  simp [busOf, setReplies, completed]

/-- Settles O29: the first write, then the script of the other three. -/
theorem uartInitRunsInFiveSteps : Obligations.UartInitRunsInFiveSteps := by
  intro s n f a b c d rest hs hd hr
  have active := active_of_begins hs
  have answered : nextReply .uart s = .answer a := nextReply_cons hr
  have first := uartInitProgramsTheUart.2.1 s a n f (phase_of_begins hs) hd answered
  have played_first : { afterEvent .uart (.memWrite (uartAddr s.params.uartIbrdOff s) (BitVec.ofNat 32 n))
        (.uartFbrd (BitVec.ofNat 6 f)) s with ibrd := BitVec.ofNat 16 n, fbrd := BitVec.ofNat 6 f } =
      goto (.txn (.uartFbrd (BitVec.ofNat 6 f))) (played .uart (.uartFbrd (BitVec.ofNat 6 f))
        [(.memWrite (uartAddr s.params.uartIbrdOff s) (BitVec.ofNat 32 n), none)] ([b, c, d].map .answer ++ rest)
        (setDivisor n f s)) := by
    rw [afterEvent, popReply_answer (show repliesOf .uart s = _ from hr)]
    rfl
  rw [played_first] at first
  have active' : Active .uartInit (setDivisor n f s) := active.of_hostOwned rfl rfl
  rw [run_succ (active.step.trans first)]
  refine (run_script (xs := [b, c, d]) .own active' (script_uartInit _ _ b c d) _ rest 1).trans ?_
  rw [run_completes active' fun _ => rfl]
  obtain ⟨-, -, -, -, -, -, hf⟩ := divisor_some hd
  have : (BitVec.ofNat 6 f).setWidth 32 = BitVec.ofNat 32 f := by
    apply BitVec.eq_of_toNat_eq
    simp
    omega
  rw [this]
  rfl

/-- Settles O37: the script of the frame, or of its part up to the NACK. -/
theorem i2cWriteEndsOkOrBusFault : Obligations.I2cWriteEndsOkOrBusFault := by
  intro reg d8 s st a b c sp rest hs hd w
  have enters : Enters (.i2cWrite reg d8) s := ⟨rfl, fun _ => hd⟩
  refine ⟨fun passes hr => ?_, fun acks fault hl hacks hc hr => ?_⟩
  · have run := run_transfer hs enters (script_i2cWrite s reg d8 (a := a) (b := b) (c := c) st (passes.imp_right And.left)
      (passes.imp_right fun h => h.2.1) (passes.imp_right fun h => h.2.2) sp) (by simp) (fun _ => rfl) hr rfl rfl rfl
    simpa [busOf, setReplies, completed, w] using run
  · have script : Script (.i2cWrite reg d8) s .first (st :: acks ++ [c, sp])
        ((.i2cStart, none) :: (List.zipWith .i2cWrite w ((acks ++ [c]).map Answer.ack)).map (·, none) ++ [(.i2cStop, none)])
        (.ended .busFault) := by
      match acks, hl with
      | [], _ =>
        exact (script_i2cWrite_address s reg d8 st c).snoc fun _ own hx => checkAck_reached fault hc own hx _
      | [a], _ =>
        exact ((script_i2cWrite_address s reg d8 st a).snoc
          (answers_i2cWrite_register s reg d8 (.inr (hacks a (by simp))) c)).snoc
          fun _ own hx => checkAck_reached fault hc own hx _
      | [a, b], _ =>
        exact (((script_i2cWrite_address s reg d8 st a).snoc
          (answers_i2cWrite_register s reg d8 (.inr (hacks a (by simp))) b)).snoc
          (answers_i2cWrite_data s reg d8 (.inr (hacks b (by simp))) c)).snoc
          fun _ own hx => checkAck_reached fault hc own hx _
    have none (es : List Event) :
        (((.i2cStart, none) :: es.map (·, none) ++ [(.i2cStop, none)] : List Deed).filterMap (·.2)) = [] := by
      simp
    have run := run_transfer hs enters script (by simp) (fun _ => rfl) hr rfl rfl (none _)
    simpa [busOf, setReplies, completed, Function.comp_def] using run

/-- Settles O38: the script of the frame, or of its part up to the NACK. -/
theorem i2cReadRunsInLenPlusSevenSteps : Obligations.I2cReadRunsInLenPlusSevenSteps := by
  intro reg len s st a b rs c sp bytes rest hs hd h1 h16
  have enters : Enters (.i2cRead reg len) s := ⟨lenValid_iff.mpr ⟨h1, h16⟩, fun _ => hd⟩
  refine ⟨fun passes hb hr => ?_, fun fault => ⟨fun ha hr => ?_, fun ha hb hr => ?_, fun ha hb hc hr => ?_⟩⟩
  · obtain ⟨t, run, shape, bytesIn⟩ := run_read hs enters (script_i2cRead s reg (a := a) (b := b) (c := c) st rs
      (passes.imp_right And.left) (passes.imp_right fun h => h.2.1) (passes.imp_right fun h => h.2.2) hb h1 sp) (by simp)
      (fun _ => rfl) (rest := rest) (by simpa [repliesOf, busOf] using hr) rfl rfl (ys := bytes) (by simp) hb h16
    refine ⟨t, ?_, shape.trans ?_, bytesIn⟩
    · simpa [hb, Nat.add_comm, Nat.add_left_comm, Nat.add_assoc] using run
    · simp [busOf, setReplies, completed, events_received, List.mapIdx_eq_zipIdx_map, dataByte]
  · have run := run_transfer hs enters (script_i2cRead_nack1 s reg len fault ha st sp) (by simp) (fun _ => rfl) hr rfl rfl rfl
    simpa [busOf, setReplies, completed, ha] using run
  · have run := run_transfer hs enters (script_i2cRead_nack2 s reg len fault (.inr ha) hb st sp) (by simp) (fun _ => rfl) hr
      rfl rfl rfl
    simpa [busOf, setReplies, completed, ha, hb] using run
  · have run := run_transfer hs enters (script_i2cRead_nack3 s reg len fault (.inr ha) (.inr hb) hc st rs sp) (by simp)
      (fun _ => rfl) hr rfl rfl rfl
    simpa [busOf, setReplies, completed, ha, hb, hc] using run

end Sys2Proof.Machine
end

section
/-! Attempts of a poll whose answers are listed: the script of the status transaction, and what the attempt leaves (R251,
R252). -/

namespace Sys2Proof.Machine

/-- With these answers the status transaction i leaves these events and these bytes of RXBUF, both lines inactive, and ends
with r. -/
inductive Tries (i : Instr) (s : State) (answers : List Answer) (events : List Event) (stores : List (Nat × Byte)) (r : Result) :
    Prop
  | intro (ds : List Deed) (q : Pos) (script : Script i s .first answers ds q) (listed : answers ≠ [])
      (ended : ∀ t, stepOf i q t = .ended r) (cs : csAt q = false) (held : heldAt q = false)
      (events_eq : ds.map (·.1) = events) (stores_eq : ds.filterMap (·.2) = stores)

/-- The answers of a UART attempt: RX-empty = 1 on some flag reads, then RX-empty = 0, then the data word (R165). -/
theorem uartAttempt_some {s : State} {as : List Answer} {x : Attempt} (h : uartAttempt s as = some x) :
    ∃ b, Receives s b ∧ as = b.1 ++ [b.2.1, b.2.2] ∧ x = ⟨as, (uartByte s 0 b).map (·.1), dataByte b.2.2.data⟩ := by
  induction as generalizing x with
  | nil => simp [uartAttempt] at h
  | cons fr as ih =>
    unfold uartAttempt at h
    split at h
    · next empty =>
      obtain ⟨y, hy, rfl⟩ := Option.map_eq_some_iff.mp h
      obtain ⟨⟨full, clear, d⟩, ⟨hf, hc⟩, rfl, rfl⟩ := ih hy
      exact ⟨(fr :: full, clear, d), ⟨by simpa [empty] using hf, hc⟩, rfl, rfl⟩
    · next clear =>
      split at h
      · simp only [Option.some.injEq] at h
        subst h
        exact ⟨([], fr, _), ⟨by simp, by simpa using clear⟩, rfl, rfl⟩
      · simp at h

/-- The answers of an I2C attempt (R182, R188). -/
theorem attemptOf_i2cRead {s : State} {reg : Byte} {n : Nat} {as : List Answer} {x : Attempt}
    (h : attemptOf s (.i2cRead reg n) as = some x) : ∃ st a b rs c d sp, as = [st, a, b, rs, c, d, sp] ∧
      ¬ (s.params.nackIsFault = true ∧ (a.ack = .nack ∨ b.ack = .nack ∨ c.ack = .nack)) ∧
      x = ⟨as, [.i2cStart, .i2cWrite (addressWrite s.i2cDev) a.ack, .i2cWrite reg b.ack, .i2cRstart,
        .i2cWrite (addressRead s.i2cDev) c.ack, .i2cRead true (dataByte d.data), .i2cStop], dataByte d.data⟩ := by
  unfold attemptOf at h
  split at h <;> simp_all

/-- The answers of an SPI attempt (R208, R214). -/
theorem attemptOf_spiRead {s : State} {instr : Byte} {n : Nat} {as : List Answer} {x : Attempt}
    (h : attemptOf s (.spiRead instr n) as = some x) : ∃ st a b c d z, as = [st, a, b, c, d, z] ∧
      x = ⟨as, [.csAssert, .spiXfer instr (dataByte a.data), .spiXfer (highByte s.maddr) (dataByte b.data),
        .spiXfer (lowByte s.maddr) (dataByte c.data), .spiXfer 0x00 (dataByte d.data), .csDeassert], dataByte d.data⟩ := by
  unfold attemptOf at h
  split at h <;> simp_all

theorem attemptOf_spiCmdr {s : State} {instr : Byte} {n : Nat} {as : List Answer} {x : Attempt}
    (h : attemptOf s (.spiCmdr instr n) as = some x) : ∃ st a d z, as = [st, a, d, z] ∧
      x = ⟨as, [.csAssert, .spiXfer instr (dataByte a.data), .spiXfer 0x00 (dataByte d.data), .csDeassert],
        dataByte d.data⟩ := by
  unfold attemptOf at h
  split at h <;> simp_all

/-- An acknowledge that is no fault, where no NACK of the attempt is one (R182). -/
theorem passes_of_not_nack {s : State} {a : Answer} {P : Prop} (h : ¬ (s.params.nackIsFault = true ∧ P))
    (ha : a.ack = .nack → P) : Passes s a := by
  cases hf : s.params.nackIsFault with
  | false => exact .inl hf
  | true =>
    cases hack : a.ack with
    | ack => exact .inr hack
    | nack => exact absurd ⟨hf, ha hack⟩ h

/-- An attempt of R251 is the script of its status transaction. -/
theorem tries_of_attemptOf {s : State} {i : Instr} {x : Attempt} (txn : statusTxn s = some i)
    (h : attemptOf s i x.answers = some x) : Tries i s x.answers x.events [(0, x.byte)] .ok := by
  obtain ⟨as, es, byte⟩ := x
  obtain ⟨-, ⟨reg, rfl, -⟩ | ⟨instr, rfl⟩ | ⟨instr, rfl⟩ | rfl⟩ := statusTxn_some txn
  · obtain ⟨st, a, b, rs, c, d, sp, ha, passes, he⟩ := attemptOf_i2cRead h
    simp only [Attempt.mk.injEq] at he ha
    obtain ⟨-, rfl, rfl⟩ := he
    subst ha
    have script := script_i2cRead s reg (len := 1) st rs (passes_of_not_nack passes .inl)
      (passes_of_not_nack passes fun h => .inr (.inl h)) (passes_of_not_nack passes fun h => .inr (.inr h))
      (bytes := [d]) rfl le_rfl sp
    exact ⟨_, _, script, by simp, fun _ => rfl, rfl, rfl, rfl, rfl⟩
  · obtain ⟨st, a, b, c, d, z, ha, he⟩ := attemptOf_spiRead h
    simp only [Attempt.mk.injEq] at he ha
    obtain ⟨-, rfl, rfl⟩ := he
    subst ha
    exact ⟨_, _, script_spiRead s instr (len := 1) st a b c (bytes := [d]) rfl z, by simp, fun _ => rfl, rfl, rfl, rfl, rfl⟩
  · obtain ⟨st, a, d, z, ha, he⟩ := attemptOf_spiCmdr h
    simp only [Attempt.mk.injEq] at he ha
    obtain ⟨-, rfl, rfl⟩ := he
    subst ha
    exact ⟨_, _, script_spiCmdr s instr (len := 1) st a (bytes := [d]) rfl z, by simp, fun _ => rfl, rfl, rfl, rfl, rfl⟩
  · obtain ⟨b, hb, ha, he⟩ := uartAttempt_some h
    simp only [Attempt.mk.injEq] at he ha
    obtain ⟨-, rfl, rfl⟩ := he
    subst ha
    refine ⟨_, _, script_uartByte (readsFlags rfl fun _ _ => rfl) hb, by simp, fun _ => rfl, rfl, rfl, rfl, ?_⟩
    rw [uartByte, List.filterMap_append, stores_flags]
    rfl

/-- The answers of a NACKed attempt, by the byte that is NACKed (R182, R189). -/
theorem nackedAttempt_some {s : State} {reg : Byte} {as : List Answer} {es : List Event} (h : nackedAttempt s reg as = some es) :
    s.params.nackIsFault = true ∧
      ((∃ st a sp, as = [st, a, sp] ∧ a.ack = .nack ∧
          es = [.i2cStart, .i2cWrite (addressWrite s.i2cDev) a.ack, .i2cStop]) ∨
        (∃ st a b sp, as = [st, a, b, sp] ∧ a.ack = .ack ∧ b.ack = .nack ∧
          es = [.i2cStart, .i2cWrite (addressWrite s.i2cDev) a.ack, .i2cWrite reg b.ack, .i2cStop]) ∨
        ∃ st a b rs c sp, as = [st, a, b, rs, c, sp] ∧ a.ack = .ack ∧ b.ack = .ack ∧ c.ack = .nack ∧
          es = [.i2cStart, .i2cWrite (addressWrite s.i2cDev) a.ack, .i2cWrite reg b.ack, .i2cRstart,
            .i2cWrite (addressRead s.i2cDev) c.ack, .i2cStop]) := by
  unfold nackedAttempt at h
  split at h
  · next fault =>
    refine ⟨fault, ?_⟩
    split at h <;> simp only [Option.some.injEq, reduceCtorEq] at h <;> subst h
    · exact .inl ⟨_, _, _, rfl, rfl, rfl⟩
    · exact .inr (.inl ⟨_, _, _, _, rfl, rfl, rfl, rfl⟩)
    · exact .inr (.inr ⟨_, _, _, _, _, _, rfl, rfl, rfl, rfl, rfl⟩)
  · simp at h

/-- A NACKed attempt is the script up to its STOP. -/
theorem tries_of_nackedAttempt {s : State} {reg : Byte} {as : List Answer} {es : List Event}
    (h : nackedAttempt s reg as = some es) : Tries (.i2cRead reg 1) s as es [] .busFault := by
  obtain ⟨fault, ⟨st, a, sp, rfl, ha, rfl⟩ | ⟨st, a, b, sp, rfl, ha, hb, rfl⟩ |
    ⟨st, a, b, rs, c, sp, rfl, ha, hb, hc, rfl⟩⟩ := nackedAttempt_some h
  · exact ⟨_, _, script_i2cRead_nack1 s reg 1 fault ha st sp, by simp, fun _ => rfl, rfl, rfl, rfl, rfl⟩
  · exact ⟨_, _, script_i2cRead_nack2 s reg 1 fault (.inr ha) hb st sp, by simp, fun _ => rfl, rfl, rfl, rfl, rfl⟩
  · exact ⟨_, _, script_i2cRead_nack3 s reg 1 fault (.inr ha) (.inr hb) hc st rs sp, by simp, fun _ => rfl,
      rfl, rfl, rfl, rfl⟩

/-! ### The steps of POLL.RUN -/

section Loop

variable {s t : State} {i : Instr}

theorem attemptDone_goto (r : Result) (after x : Phase) (s : State) :
    attemptDone r after (goto x s) = attemptDone r after s := by
  cases r <;> rfl

theorem begins_attempt (hp : t.phase = .pollTest) (idle : t.pollState = .idle) (budget : t.pollAttempts < t.pollMax)
    (txn : statusTxn t = some i) : Begins .pollRun i t .pollAttempt := by
  intro q u e
  rw [exec_first .run hp idle budget txn, attemptStep, statusStep_eq txn, e]

/-- The step in which an attempt ends, from where its transaction has got to (R251). -/
theorem run_attemptEnds {u : State} {q : Pos} {r : Result} (active : Active .pollRun t) (txn : statusTxn t = some i)
    (own : hostOwned u = hostOwned t) (busy : u.busy = t.busy) (ended : ∀ t, stepOf i q t = .ended r) (m : Nat) :
    run (m + 1) (goto (.pollAttempt q) u) = run m (attemptDone r .pollTest u) := by
  have active' : Active .pollRun (goto (.pollAttempt q) u) := active.of_hostOwned ((hostOwned_goto ..).trans own) busy
  have txn' : statusTxn (goto (.pollAttempt q) u) = some i :=
    (statusTxn_congr (congrArg HostOwned.pollTxn own) (i2cDev_eq own)).trans txn
  refine run_succ (active'.step.trans ?_) m
  rw [exec_pollAttempt .run rfl, attemptStep, statusStep_eq txn', ended, ← attemptDone_goto]

/-- A whole attempt, from Idle to its end (R251, R252). -/
theorem run_attempt {xs : List Answer} {es : List Event} {st : List (Nat × Byte)} {r : Result} {rest : List Reply}
    (tries : Tries i s xs es st r) (own : hostOwned t = hostOwned s) (active : Active .pollRun t) (hp : t.phase = .pollTest)
    (idle : t.pollState = .idle) (budget : t.pollAttempts < t.pollMax) (txn : statusTxn t = some i) (cs : t.cs = false)
    (held : t.held = false) (replies : repliesOf (busOf i) t = xs.map .answer ++ rest) (m : Nat) :
    run (xs.length + 1 + m) t = run m (attemptDone r .pollTest { setReplies (busOf i) rest t with
      rxbuf := filed st t.rxbuf, history := t.history ++ es }) := by
  obtain ⟨ds, q, script, listed, ended, hc, hh, rfl, rfl⟩ := tries
  have left : played (busOf i) q ds rest t = { setReplies (busOf i) rest t with
      rxbuf := filed (ds.filterMap (·.2)) t.rxbuf, history := t.history ++ ds.map (·.1) } := by
    rw [played, hc, hh, cs, held, ite_self, ite_self]
    cases busOf i <;> simp [setReplies, cs, held]
  rw [Nat.add_assoc,
    run_script_first (begins_attempt hp idle budget txn) (.attempt .run txn) active (script.of_hostOwned own) listed replies,
    Nat.add_comm, run_attemptEnds active txn (hostOwned_played ..) (busy_played _ q ds ..) ended, left]

theorem run_terminal (active : Active .pollRun t) (hp : t.phase = .pollTest) (h : terminal t.pollState = true) :
    run 1 t = .next (complete (codeOf t.pollState) t) := by
  refine run_succ (active.step.trans ?_) 0
  simp [exec, execPollRun, hp, h]

theorem run_spent (active : Active .pollRun t) (hp : t.phase = .pollTest) (idle : t.pollState = .idle)
    (spent : t.pollMax ≤ t.pollAttempts) (m : Nat) :
    run (m + 1) t = run m { t with pollState := .timeout, phase := .pollTest } := by
  refine run_succ (active.step.trans ?_) m
  simp [exec, execPollRun, hp, idle, terminal, transition, spent]

theorem run_evaluate (active : Active .pollRun t) (hp : t.phase = .pollTest) (evaluate : t.pollState = .evaluate) (m : Nat) :
    run (m + 1) t = run m { t with pollState := evaluated t, phase := .pollTest } := by
  refine run_succ (active.step.trans ?_) m
  simp [exec, execPollRun, hp, evaluate, terminal, transition]

theorem run_retry (active : Active .pollRun t) (hp : t.phase = .pollTest) (retry : t.pollState = .retry) (m : Nat) :
    run (m + 1) t = run m { t with pollState := .idle, phase := .pollTest } := by
  refine run_succ (active.step.trans ?_) m
  simp [exec, execPollRun, hp, retry, terminal, transition]

end Loop

end Sys2Proof.Machine
end

section
/-! POLL.RUN with listed answers: the state at the test of its loop, by the attempts made so far (R262). -/

namespace Sys2Proof.Machine

/-- POLL.RUN at the test of its loop, in poll state st, after these attempts, all OK. -/
def testing (b : Bus) (done : List Attempt) (rest : List Reply) (st : PollState) (s : State) : State :=
  { afterAttempts b done rest s with pollState := st, phase := .pollTest }

section Fields

variable (b : Bus) (done : List Attempt) (rest : List Reply) (st : PollState) (s : State)

@[simp] theorem testing_phase : (testing b done rest st s).phase = .pollTest := rfl
@[simp] theorem testing_pollState : (testing b done rest st s).pollState = st := rfl
@[simp] theorem testing_pollAttempts : (testing b done rest st s).pollAttempts = BitVec.ofNat 16 done.length := rfl
@[simp] theorem testing_cs : (testing b done rest st s).cs = s.cs := by cases b <;> rfl
@[simp] theorem testing_held : (testing b done rest st s).held = s.held := by cases b <;> rfl
@[simp] theorem testing_busy : (testing b done rest st s).busy = s.busy := by cases b <;> rfl
@[simp] theorem testing_pollMax : (testing b done rest st s).pollMax = s.pollMax := by cases b <;> rfl
@[simp] theorem testing_pollTxn : (testing b done rest st s).pollTxn = s.pollTxn := by cases b <;> rfl
@[simp] theorem testing_i2cDev : (testing b done rest st s).i2cDev = s.i2cDev := by cases b <;> rfl
@[simp] theorem hostOwned_testing : hostOwned (testing b done rest st s) = hostOwned s := by cases b <;> rfl
@[simp] theorem repliesOf_testing : repliesOf b (testing b done rest st s) = rest := by cases b <;> rfl

end Fields

theorem testing_pollLast (b : Bus) (done : List Attempt) (x : Attempt) (rest : List Reply) (st : PollState) (s : State) :
    (testing b (done ++ [x]) rest st s).pollLast = x.byte := by
  simp [testing, afterAttempts]

/-- RXBUF[0] after some attempts, then one more. -/
theorem rxbuf_after_attempt (done : List Attempt) (x : Attempt) (v : Vector Byte 16) :
    filed [(0, x.byte)] ((done.getLast?.map fun x => v.set 0 x.byte).getD v) = v.set 0 x.byte := by
  cases done.getLast? <;> simp [filed, Vector.setIfInBounds, Vector.set, Array.setIfInBounds]

/-- What an attempt leaves is one more attempt. -/
theorem attemptDone_testing (b : Bus) (done : List Attempt) (x : Attempt) (rest rest' : List Reply) (s : State) :
    attemptDone .ok .pollTest { setReplies b rest (testing b done rest' .idle s) with
      rxbuf := filed [(0, x.byte)] (testing b done rest' .idle s).rxbuf
      history := (testing b done rest' .idle s).history ++ x.events } = testing b (done ++ [x]) rest .evaluate s := by
  have rx := rxbuf_after_attempt done x s.rxbuf
  have last : (s.rxbuf.set 0 x.byte).getD 0 0#8 = x.byte := by simp [Vector.getD]
  cases b <;> simp [testing, afterAttempts, attemptDone, setReplies, rxByte, rx, last, BitVec.ofNat_add, List.append_assoc]

section Loop

variable {s : State} {i : Instr} {done : List Attempt} {rest : List Reply}

theorem active_testing (active : Active .pollRun s) (b : Bus) (st : PollState) :
    Active .pollRun (testing b done rest st s) :=
  active.of_hostOwned (hostOwned_testing ..) (testing_busy b done rest st s)

/-- The budget, as numbers: MAX is a 16-bit number, so ATTEMPTS does not wrap (R262). -/
theorem toNat_attempts (h : done.length ≤ s.pollMax.toNat) (b : Bus) (st : PollState) :
    (testing b done rest st s).pollAttempts.toNat = done.length := by
  have := s.pollMax.isLt
  rw [testing_pollAttempts, BitVec.toNat_ofNat]
  omega

theorem statusTxn_testing (txn : statusTxn s = some i) (b : Bus) (st : PollState) :
    statusTxn (testing b done rest st s) = some i :=
  (statusTxn_congr (testing_pollTxn ..) (testing_i2cDev ..)).trans txn

/-- POLL.RUN arms the poller in its first step (R262). -/
theorem run_arms (hs : begins .pollRun s = true) (txn : statusTxn s = some i) (b : Bus) (m : Nat) :
    run (m + 1) s = run m (testing b [] (repliesOf b s) .idle s) := by
  have armed : goto .pollTest (armPoll s) = testing b [] (repliesOf b s) .idle s := by
    cases b <;> simp [testing, afterAttempts, setReplies, goto, armPoll, repliesOf]
  refine run_succ ((active_of_begins hs).step.trans ?_) m
  rw [← armed]
  simp [exec, execPollRun, phase_of_begins hs, txnOk_iff.mpr ⟨i, txn⟩]

section Attempts

variable (active : Active .pollRun s) (txn : statusTxn s = some i) (cs : s.cs = false) (held : s.held = false)
include active txn cs held

/-- An attempt with any outcome. -/
theorem run_testing {xs : List Answer} {es : List Event} {st : List (Nat × Byte)} {r : Result} (tries : Tries i s xs es st r)
    (budget : done.length < s.pollMax.toNat) (m : Nat) :
    run (xs.length + 1 + m) (testing (busOf i) done (xs.map .answer ++ rest) .idle s) =
      run m (attemptDone r .pollTest { setReplies (busOf i) rest (testing (busOf i) done (xs.map .answer ++ rest) .idle s) with
        rxbuf := filed st (testing (busOf i) done (xs.map .answer ++ rest) .idle s).rxbuf
        history := (testing (busOf i) done (xs.map .answer ++ rest) .idle s).history ++ es }) := by
  refine run_attempt tries (hostOwned_testing ..) (active_testing active _ _) rfl rfl ?_ (statusTxn_testing txn _ _)
    (by simpa using cs) (by simpa using held) (repliesOf_testing ..) m
  rw [BitVec.lt_def, toNat_attempts budget.le, testing_pollMax]
  exact budget

/-- An attempt that ends OK is counted, and its byte is to be evaluated. -/
theorem run_ok {x : Attempt} (h : attemptOf s i x.answers = some x) (budget : done.length < s.pollMax.toNat) (m : Nat) :
    run (x.answers.length + 1 + m) (testing (busOf i) done (x.answers.map .answer ++ rest) .idle s) =
      run m (testing (busOf i) (done ++ [x]) rest .evaluate s) := by
  rw [run_testing active txn cs held (tries_of_attemptOf txn h) budget, attemptDone_testing]

omit txn cs held in
/-- The test of the byte, then of the budget (R252). -/
theorem run_evaluated {x : Attempt} {st : PollState}
    (h : st = if ready s x.byte then .ready else if s.pollMax.toNat ≤ done.length + 1 then .timeout else .retry)
    (hl : done.length < s.pollMax.toNat) (b : Bus) (m : Nat) :
    run (m + 1) (testing b (done ++ [x]) rest .evaluate s) = run m (testing b (done ++ [x]) rest st s) := by
  have attempts := toNat_attempts (s := s) (done := done ++ [x]) (rest := rest) (by simpa using hl) b .evaluate
  have isReady : ready (testing b (done ++ [x]) rest .evaluate s) x.byte = ready s x.byte := by cases b <;> rfl
  have outcome : evaluated (testing b (done ++ [x]) rest .evaluate s) = st := by
    rw [evaluated, testing_pollLast, isReady, h]
    simp only [BitVec.le_def, attempts, testing_pollMax, List.length_append, List.length_singleton]
  rw [run_evaluate (active_testing active _ _) rfl rfl, outcome]
  rfl

/-- The attempts before the last: none is ready, and there is budget for the next. -/
theorem run_early {early : List Attempt} (h : ∀ x ∈ early, attemptOf s i x.answers = some x)
    (notReady : ∀ x ∈ early, ready s x.byte = false) (budget : done.length + early.length < s.pollMax.toNat) (m : Nat) :
    run (attemptSteps early + m) (testing (busOf i) done ((early.flatMap (·.answers)).map .answer ++ rest) .idle s) =
      run m (testing (busOf i) (done ++ early) rest .idle s) := by
  induction early generalizing done with
  | nil => simp
  | cons x early ih =>
    rw [List.length_cons] at budget
    have tail := ih (done := done ++ [x]) (fun y hy => h y (by simp [hy])) (fun y hy => notReady y (by simp [hy]))
      (by simp; omega)
    have retry : PollState.retry =
        if ready s x.byte then .ready else if s.pollMax.toNat ≤ done.length + 1 then .timeout else .retry := by
      rw [notReady x (by simp), if_neg (by simp), if_neg (by omega)]
    rw [List.append_assoc] at tail
    rw [attemptSteps_cons, List.flatMap_cons, List.map_append, List.append_assoc,
      show x.answers.length + 3 + attemptSteps early + m = x.answers.length + 1 + (attemptSteps early + m + 1 + 1) by omega,
      run_ok active txn cs held (h x (by simp)) (by omega), run_evaluated active retry (by omega),
      run_retry (active_testing active _ _) rfl rfl]
    exact tail

end Attempts

theorem attemptSteps_append (xs ys : List Attempt) : attemptSteps (xs ++ ys) = attemptSteps xs + attemptSteps ys := by
  simp [attemptSteps]

/-- A consistent state in which a command is about to begin has both lines inactive (R181, R200). -/
theorem lines_of_begins (hs : begins i s = true) (hc : consistent s = true) : s.cs = false ∧ s.held = false :=
  (consistent_iff.mp hc).inactive (by rw [phase_of_begins hs]; exact ⟨rfl, rfl⟩)

/-- A whole POLL.RUN whose last attempt is the first one that is ready, or the last one of its budget. -/
theorem run_pollRun {early : List Attempt} {x : Attempt} {st : PollState} (hs : begins .pollRun s = true)
    (hc : consistent s = true) (txn : statusTxn s = some i) (h : ∀ y ∈ early ++ [x], attemptOf s i y.answers = some y)
    (budget : early.length < s.pollMax.toNat) (notReady : ∀ y ∈ early, ready s y.byte = false)
    (hst : st = if ready s x.byte then .ready else if s.pollMax.toNat ≤ early.length + 1 then .timeout else .retry)
    (ends : terminal st = true)
    (replies : repliesOf (busOf i) s = ((early ++ [x]).flatMap (·.answers)).map .answer ++ rest) :
    run (attemptSteps (early ++ [x]) + 1) s = .next { completed (codeOf st) (afterAttempts (busOf i) (early ++ [x]) rest s) with
      pollState := st } := by
  have active := active_of_begins hs
  obtain ⟨cs, held⟩ := lines_of_begins hs hc
  rw [run_arms hs txn (busOf i), replies, attemptSteps_append, List.flatMap_append, List.map_append, List.append_assoc,
    run_early active txn cs held (fun y hy => h y (by simp [hy])) notReady (by simpa using budget), List.nil_append,
    attemptSteps_cons, attemptSteps_nil, List.flatMap_singleton, Nat.add_zero,
    show x.answers.length + 3 = x.answers.length + 1 + (1 + 1) from rfl,
    run_ok active txn cs held (h x (by simp)) budget, run_evaluated active hst budget,
    run_terminal (active_testing active _ _) rfl ends]
  rfl

end Loop

end Sys2Proof.Machine
end

section
/-! POLL.RUN with the status transaction SPI.CMDR and transports that complete, by their listed replies or by free draws
(R262, R265, log 4). -/

namespace Sys2Proof.Machine

theorem completes_answer {b : Bus} {s : State} (h : completes b s = true) : ∃ x, nextReply b s = .answer x := by
  unfold completes at h
  unfold nextReply
  cases hr : repliesOf b s with
  | nil => exact ⟨_, rfl⟩
  | cons r rs => cases r <;> simp_all

theorem completes_of_repliesOf {b : Bus} {s t : State} (h : completes b s = true) (hr : repliesOf b t = repliesOf b s) :
    completes b t = true := by
  unfold completes at h ⊢
  rwa [hr]

theorem completes_popReply {b : Bus} {s : State} (h : completes b s = true) : completes b (popReply b s) = true := by
  unfold completes at h
  cases hr : repliesOf b s with
  | nil =>
    rw [popReply_nil hr]
    cases b <;> simp_all [completes, repliesOf]
  | cons r rs =>
    cases r with
    | answer a =>
      rw [popReply_answer hr]
      simp_all [completes]
    | pending | never => simp_all

theorem framesOpened_append (h : List Event) (e : Event) :
    framesOpened (h ++ [e]) = framesOpened h + if e = .csAssert then 1 else 0 := by
  simp [framesOpened, List.countP_append, List.countP_singleton]

theorem hostOwned_stored_performed (e : Event) (byte : Option (Nat × Byte)) (s : State) :
    hostOwned (stored byte (performed e s)) = hostOwned s := by
  have own : hostOwned (performed e s) = hostOwned s := hostOwned_popReply (eventBus e) s
  cases byte <;> exact own

/-- What an attempt keeps as it goes from s to t, and the chip-select frames it has opened. -/
structure Attempting (s t : State) (frames : Nat) : Prop where
  own : hostOwned t = hostOwned s
  busy : t.busy = s.busy
  attempts : t.pollAttempts = s.pollAttempts
  completes : completes .spi t = true
  frames : framesOpened t.history = framesOpened s.history + frames

section Attempt

variable {s t : State} {n : Nat}

theorem Attempting.performed {e : Event} (h : Attempting s t n) (he : eventBus e = .spi) (byte : Option (Nat × Byte)) :
    Attempting s (stored byte (performed e t)) (n + if e = .csAssert then 1 else 0) where
  own := (hostOwned_stored_performed e byte t).trans h.own
  busy := by simpa using h.busy
  attempts := by simpa using h.attempts
  completes := completes_of_repliesOf (completes_popReply h.completes) (by simp [he])
  frames := by
    rw [stored_history, performed_history, framesOpened_append, h.frames, Nat.add_assoc]

theorem Attempting.active (h : Attempting s t n) (active : Active .pollRun s) (x : Phase) : Active .pollRun (goto x t) :=
  active.of_hostOwned ((hostOwned_goto ..).trans h.own) h.busy

/-- One primitive of the attempt. -/
theorem Attempting.run {j : Instr} {p q : Pos} {u : State} (h : Attempting s t n) (active : Active .pollRun s)
    (txn : statusTxn s = some j) (e : stepOf j p t = .reached q u) (m : Nat) :
    run (m + 1) (goto (.pollAttempt p) t) = Machine.run m (goto (.pollAttempt q) u) :=
  run_succ ((h.active active _).step.trans (exec_inside (.attempt .run txn) h.own e)) m

/-- A whole attempt of SPI.CMDR, whatever the transport answers. -/
theorem run_attempt_free {instr : Byte} (active : Active .pollRun s) (hp : s.phase = .pollTest) (idle : s.pollState = .idle)
    (budget : s.pollAttempts < s.pollMax) (txn : statusTxn s = some (.spiCmdr instr 1)) (hc : completes .spi s = true) :
    ∃ t, Attempting s t 1 ∧ ∀ m, run (m + 5) s = run m (attemptDone .ok .pollTest t) := by
  have start : Attempting s s 0 := ⟨rfl, rfl, rfl, hc, rfl⟩
  obtain ⟨a, ha⟩ := completes_answer start.completes
  have asserted := start.performed (e := .csAssert) rfl none
  obtain ⟨b, hb⟩ := completes_answer asserted.completes
  have sent := asserted.performed (e := .spiXfer instr (dataByte b.data)) rfl none
  obtain ⟨c, hc⟩ := completes_answer sent.completes
  have gotten := sent.performed (e := .spiXfer 0x00 (dataByte c.data)) rfl (some (0, dataByte c.data))
  obtain ⟨d, hd⟩ := completes_answer gotten.completes
  have released := gotten.performed (e := .csDeassert) rfl none
  refine ⟨_, released, fun m => ?_⟩
  have first := active.step.trans (begins_attempt hp idle budget txn .spiInstr _ (csAssert_reached ha .spiInstr))
  rw [run_succ first]
  refine (asserted.run (p := .spiInstr) active txn (spiSend_reached hb instr (.spiByte 0)) _).trans ?_
  refine (sent.run (p := .spiByte 0) active txn (spiReceive_reached hc 0 (.spiByte 1)) _).trans ?_
  refine (gotten.run (p := .spiByte 1) active txn (csDeassert_reached hd (.ended .ok)) _).trans ?_
  exact run_attemptEnds active txn released.own released.busy (fun _ => rfl) m

end Attempt

/-- How a POLL.RUN that has budget for r more attempts ends after n steps in t: ready within its budget, or with the budget used
up. -/
inductive Finishes (s : State) (r n : Nat) (t : State) : Prop
  | ready (result : t.result = .ok) (state : t.pollState = .ready) (isReady : Machine.ready t t.pollLast = true)
      (steps : n ≤ r * 7) (frames : framesOpened t.history ≤ framesOpened s.history + r)
  | timeout (result : t.result = .timeout) (state : t.pollState = .timeout) (attempts : t.pollAttempts = s.pollMax)
      (steps : n = if r = 0 then 2 else r * 7) (frames : framesOpened t.history = framesOpened s.history + r)

/-- POLL.RUN ends within its budget, whatever the status bytes are (R265). -/
theorem run_free {s : State} {instr : Byte} {r : Nat} (active : Active .pollRun s) (hp : s.phase = .pollTest)
    (idle : s.pollState = .idle) (txn : statusTxn s = some (.spiCmdr instr 1)) (hc : completes .spi s = true)
    (budget : s.pollAttempts.toNat + r = s.pollMax.toNat) :
    ∃ n t, run n s = .next t ∧ t.busy = false ∧ t.done = true ∧ hostOwned t = hostOwned s ∧ Finishes s r n t := by
  induction r generalizing s with
  | zero =>
    have spent : s.pollAttempts = s.pollMax := BitVec.eq_of_toNat_eq budget
    have active' : Active .pollRun { s with pollState := .timeout, phase := .pollTest } := active.of_hostOwned rfl rfl
    exact ⟨2, _, (run_spent active hp idle (BitVec.le_def.mpr budget.ge) 1).trans (run_terminal active' rfl rfl), rfl, rfl, rfl,
      .timeout rfl rfl spent rfl rfl⟩
  | succ r ih =>
    have due : s.pollAttempts < s.pollMax := BitVec.lt_def.mpr (by omega)
    obtain ⟨t, goes, run_t⟩ := run_attempt_free active hp idle due txn hc
    have counted : (attemptDone .ok .pollTest t).pollAttempts.toNat = s.pollAttempts.toNat + 1 := by
      rw [← toNat_add_one_of_lt due, ← goes.attempts]
      rfl
    have max : (attemptDone .ok .pollTest t).pollMax = s.pollMax := congrArg HostOwned.pollMax goes.own
    have activeIn (st : PollState) : Active .pollRun { attemptDone .ok .pollTest t with pollState := st, phase := .pollTest } :=
      active.of_hostOwned goes.own goes.busy
    have evaluate := run_evaluate (t := attemptDone .ok .pollTest t) (active.of_hostOwned goes.own goes.busy) rfl rfl
    obtain ⟨out, isReady⟩ | ⟨out, -, spent⟩ | ⟨out, -, more⟩ := evaluated_cases (attemptDone .ok .pollTest t)
    · rw [out] at evaluate
      exact ⟨7, _, (run_t 2).trans ((evaluate 1).trans (run_terminal (activeIn .ready) rfl rfl)), rfl, rfl, goes.own,
        .ready rfl rfl isReady (by omega) (goes.frames.le.trans (by omega))⟩
    · rw [out] at evaluate
      rw [max, counted] at spent
      obtain rfl : r = 0 := by omega
      exact ⟨7, _, (run_t 2).trans ((evaluate 1).trans (run_terminal (activeIn .timeout) rfl rfl)), rfl, rfl, goes.own,
        .timeout rfl rfl (BitVec.eq_of_toNat_eq (counted.trans budget)) rfl goes.frames⟩
    · rw [out] at evaluate
      rw [max, counted] at more
      have retry := run_retry (activeIn .retry) rfl rfl
      obtain ⟨n, u, run_u, busy, done, own, finishes⟩ := ih (activeIn .idle) rfl rfl
        ((statusTxn_congr (congrArg HostOwned.pollTxn goes.own) (i2cDev_eq goes.own)).trans txn)
        (completes_of_repliesOf goes.completes rfl) (by
          show (attemptDone .ok .pollTest t).pollAttempts.toNat + r = (attemptDone .ok .pollTest t).pollMax.toNat
          rw [max, counted]
          omega)
      refine ⟨n + 7, u, (run_t (n + 2)).trans ((evaluate (n + 1)).trans ((retry n).trans run_u)), busy, done,
        own.trans goes.own, ?_⟩
      have frames : framesOpened (attemptDone .ok .pollTest t).history + r = framesOpened s.history + (r + 1) :=
        (congrArg (· + r) goes.frames).trans (by omega)
      cases finishes with
      | ready result state isReady steps opened =>
        exact .ready result state isReady (by omega) (opened.trans frames.le)
      | timeout result state attempts steps opened =>
        rw [if_neg (by omega)] at steps
        exact .timeout result state (attempts.trans max) (by rw [if_neg (by omega)]; omega) (opened.trans frames)

end Sys2Proof.Machine
end

section
/-! The obligations about whole runs of POLL.RUN, of 45_poll.md. -/

namespace Sys2Proof.Machine

/-- The ready predicate depends on the configuration alone. -/
theorem ready_eq {s t : State} (own : hostOwned t = hostOwned s) (b : Byte) : ready t b = ready s b := by
  have mask : t.pollMask = s.pollMask := congrArg HostOwned.pollMask own
  have val : t.pollMatch = s.pollMatch := congrArg HostOwned.pollMatch own
  rw [ready, ready, mask, val]

/-- A whole POLL.RUN with the status transaction SPI.CMDR, from its first step. -/
theorem run_pollRun_free {s : State} {instr : Byte} (hs : begins .pollRun s = true)
    (hd : decode s.pollTxn = .ok (.spiCmdr instr 1)) (hc : completes .spi s = true) :
    ∃ n t, run (n + 1) s = .next t ∧ t.busy = false ∧ t.done = true ∧ hostOwned t = hostOwned s ∧
      Finishes s s.pollMax.toNat n t := by
  have txn := statusTxn_spiCmdr hd
  have active := active_testing (done := []) (rest := repliesOf .spi s) (active_of_begins hs) .spi .idle
  obtain ⟨n, t, run_t, busy, done, own, finishes⟩ := run_free active rfl rfl (statusTxn_testing txn .spi .idle)
    (completes_of_repliesOf hc (repliesOf_testing ..)) (r := s.pollMax.toNat) (by simp)
  refine ⟨n, t, (run_arms hs txn .spi n).trans run_t, busy, done, own.trans (hostOwned_testing ..), ?_⟩
  have history : (testing .spi [] (repliesOf .spi s) .idle s).history = s.history := List.append_nil _
  cases finishes with
  | ready result state isReady steps frames => exact .ready result state isReady steps (history ▸ frames)
  | timeout result state attempts steps frames => exact .timeout result state attempts steps (history ▸ frames)

/-- A NACKed attempt ends the command in the next step (R252, R262). -/
theorem run_faulted {t : State} (active : Active .pollRun t) :
    run 1 (attemptDone .busFault .pollTest t) = .next (complete .busFault (attemptDone .busFault .pollTest t)) :=
  run_terminal (active.of_hostOwned (hostOwned_attemptDone ..) rfl) rfl rfl

theorem active_left {i : Instr} {t : State} (active : Active i t) (b : Bus) (rest : List Reply) (rx : Vector Byte 16)
    (events : List Event) : Active i { setReplies b rest t with rxbuf := rx, history := events } := by
  cases b <;> exact active.of_hostOwned rfl rfl

/-- Settles O50: with listed answers the attempts are scripts, and the last one uses up the budget; with free ones POLL.RUN ends,
and not in Ready. -/
theorem pollRunNeverReadyTimesOutAfterMaxAttempts : Obligations.PollRunNeverReadyTimesOutAfterMaxAttempts := by
  refine ⟨fun s i attempts rest hs hc txn h hl notReady hr => ?_, fun s instr hs hd hc never => ?_⟩
  · obtain rfl | ⟨early, x, rfl⟩ := List.eq_nil_or_concat' attempts
    · have spent : s.pollMax.toNat ≤ 0 := hl.ge
      rw [List.flatMap_nil, List.map_nil, List.nil_append] at hr
      have active := active_testing (done := []) (rest := repliesOf (busOf i) s) (active_of_begins hs) (busOf i)
      refine (run_arms hs txn (busOf i) 2).trans <| (run_spent (active .idle) rfl rfl ?_ 1).trans <|
        (run_terminal (active .timeout) rfl rfl).trans ?_
      · rw [testing_pollMax, BitVec.le_def]
        exact spent.trans (Nat.zero_le _)
      · rw [hr]
        rfl
    · rw [List.length_append, List.length_singleton] at hl
      rw [if_neg (by simp)]
      refine run_pollRun (st := .timeout) hs hc txn h (by omega) (fun y hy => notReady y (by simp [hy])) ?_ rfl hr
      rw [notReady x (by simp), if_neg (by simp), if_pos (by omega)]
  · obtain ⟨n, t, run_t, busy, done, own, finishes⟩ := run_pollRun_free hs hd hc
    cases finishes with
    | ready _ _ isReady =>
      rw [ready_eq own, never] at isReady
      contradiction
    | timeout result state attempts steps frames =>
      have count : (if s.pollMax = 0 then 3 else s.pollMax.toNat * 7 + 1) = n + 1 := by
        rw [steps]
        by_cases h : s.pollMax = 0
        · simp [h]
        · have : s.pollMax.toNat ≠ 0 := fun z => h (BitVec.eq_of_toNat_eq z)
          rw [if_neg h, if_neg this]
      exact ⟨t, by rw [count]; exact run_t, busy, done, result, state, attempts, frames⟩

/-- Settles O51: the same runs, with the first attempt that is ready or NACKed as the last one. -/
theorem pollRunTerminatesWithinItsBudget : Obligations.PollRunTerminatesWithinItsBudget := by
  refine ⟨fun s i early x rest hs hc txn h budget notReady isReady hr => ?_,
    fun s reg early as es rest hs hc txn h budget notReady nacked hr => ?_, fun s instr hs hd hc => ?_⟩
  · exact run_pollRun (st := .ready) hs hc txn h budget notReady (by simp [isReady]) rfl hr
  · have active := active_of_begins hs
    obtain ⟨cs, held⟩ := lines_of_begins hs hc
    have replies : repliesOf .i2c s = (early.flatMap (·.answers)).map .answer ++ (as.map .answer ++ rest) := by
      rw [← List.append_assoc, ← List.map_append]
      exact hr
    have attempts : BitVec.ofNat 16 (early.length + 1) = BitVec.ofNat 16 early.length + 1 := BitVec.ofNat_add ..
    have early_done := run_early (done := []) (rest := as.map .answer ++ rest) active txn cs held h notReady
      (by simpa using budget) (as.length + 1 + 1)
    have nack := run_testing (done := early) (rest := rest) active txn cs held (tries_of_nackedAttempt nacked) budget 1
    rw [show attemptSteps early + as.length + 3 = attemptSteps early + (as.length + 1 + 1) + 1 by omega,
      run_arms hs txn .i2c, replies, attempts]
    refine early_done.trans (nack.trans ?_)
    refine (run_faulted (active_left (active_testing active .i2c .idle) .i2c rest _ _)).trans ?_
    rfl
  · obtain ⟨n, t, run_t, busy, done, own, finishes⟩ := run_pollRun_free hs hd hc
    cases finishes with
    | ready result state isReady steps frames =>
      exact ⟨n + 1, t, by omega, run_t, busy, done, frames, .inl ⟨result, state, isReady⟩⟩
    | timeout result state attempts steps frames =>
      refine ⟨n + 1, t, ?_, run_t, busy, done, frames.le, .inr ⟨result, state, by rw [attempts]⟩⟩
      split at steps <;> omega

end Sys2Proof.Machine
end
